-- ==== Sys2Proof/Word.lean ====
section
/-! DEFINITION. The plain data the spec counts in: bytes, 32-bit words, sample pairs, picoseconds
(spec/00_scope.md rules R6, R7, R9). -/

namespace Sys2Proof

/-- A byte, 8 bits (R6). -/
abbrev Byte := BitVec 8

/-- A VRT word, `WORD_W` = 32 bits (R5, R6). -/
abbrev Word := BitVec 32

/-- A byte sequence; the head is offset 0, the first byte sent (R6). -/
abbrev Bytes := List Byte

/-- One I/Q sample: two components of `SAMPLE_W` = 16 bits, two's complement patterns (R9, R140). -/
structure Pair where
  first : BitVec 16
  second : BitVec 16
deriving DecidableEq, Repr, Inhabited

/-- A chunk or a block: pairs in arrival order, oldest first (R9). -/
abbrev Chunk := List Pair

/-- `PS`, the picoseconds in a second (R7). -/
def picos : Nat := 1000000000000

end Sys2Proof
end

