-- ==== Sys2Proof/Config.lean ====
section
/-! DEFINITION. What an implementation of VRTB fixes (spec/00_scope.md rule R5), the named constants
of spec/30_encoding.md rule R63, the form in which an operation is presented to the machine, and the
free values: constants with no body, of which nothing can be proved. -/

namespace Sys2Proof

/-- `LAYOUT`: the bit order of the Header and Trailer words (R60, R61, R62). -/
inductive Layout where
  | vita
  | listed
deriving DecidableEq, Repr, Inhabited

/-- `IN_PUSH_POLICY`: what SRC does when `IQ` is full (R5, R211). -/
inductive PushPolicy where
  | block
  | drop
deriving DecidableEq, Repr, Inhabited

/-- The parameters of R5 that a model takes as arguments. They are a field of the state that no
operation writes, so every statement about all states holds for all of their values (log 5). -/
structure Params where
  layout : Layout
  tickHz : Nat
  iqCap : Nat
  oqCap : Nat
  maxChunk : Nat
  inPushPolicy : PushPolicy
  mtrN : Nat
deriving DecidableEq, Repr

/-- The wire formats of spec/opcode_table.json that are not operations. A wire word does not say
which format it has; whoever reads it knows from its place in the packet (R67, R74). -/
inductive WireFormat where
  | headerVita
  | headerListed
  | trailerVita
  | trailerListed
  | streamId
  | classId1
  | classId2
  | tsInt
  | tsFrac
  | triplet
  | ctxPayload
  | packet (l : Layout)
deriving DecidableEq, Repr, Inhabited

/-- Where the bytes of an operation are presented: as a command (an OPID byte and its operands) or
as wire bytes of one format. DESIGN CHOICE (log 2, log 3). -/
inductive Channel where
  | command
  | wire (f : WireFormat)
deriving DecidableEq, Repr, Inhabited

/-- One operation as it is presented to the machine. DESIGN CHOICE (log 1, log 2). -/
structure Transfer where
  channel : Channel
  bytes : Bytes
deriving DecidableEq, Repr, Inhabited

/-- The meter registers whose exact new value may exceed their width (R27, R32). -/
inductive MeterReg where
  | cnt
  | bytes
  | inst
  | rate
deriving DecidableEq, Repr, Inhabited

namespace Config

/-! The enumeration numbers of R63 (D2: those of VITA-49.0); log 20. -/

def ptData : BitVec 4 := 0
def ptDataWithId : BitVec 4 := 1
def ptExtData : BitVec 4 := 2
def ptExtDataWithId : BitVec 4 := 3
def ptContext : BitVec 4 := 4
def ptExtContext : BitVec 4 := 5
def tsiNone : BitVec 2 := 0
def tsiUtc : BitVec 2 := 1
def tsiGps : BitVec 2 := 2
def tsiOther : BitVec 2 := 3
def tsfNone : BitVec 2 := 0
def tsfSampleCount : BitVec 2 := 1
def tsfRealTime : BitVec 2 := 2
def tsfFreeRunning : BitVec 2 := 3

/-- `CONTEXT_TYPES`: the packet types for which `tsm` is decoded (R5, D3). -/
def contextTypes : List (BitVec 4) := [ptContext, ptExtContext]

/-- `SUPPORTED_RES` (R5, D13). -/
def supportedRes : List (BitVec 8) := [12]

/-! The OPEN parameters of R5. R5 says of four of them that they are at least 1: those are one more
than a constant without a body. -/

opaque tickHzLessOne : Nat
opaque iqCapLessOne : Nat
opaque oqCapLessOne : Nat
opaque maxChunk : Nat
opaque inPushPolicy : PushPolicy
opaque mtrNLessOne : Nat

/-- The parameters of this machine. `LAYOUT` has the value R5 gives; the others are OPEN (log 5). -/
def params : Params where
  layout := .vita
  tickHz := tickHzLessOne + 1
  iqCap := iqCapLessOne + 1
  oqCap := oqCapLessOne + 1
  maxChunk := maxChunk
  inPushPolicy := inPushPolicy
  mtrN := mtrNLessOne + 1

/-! Free values (log 9). The first argument is the state's counter of draws, so that each draw is a
fresh value. -/

/-- The operation that the environment and the agents present when nothing stands in the agenda:
any operation (R49, R209, U9; log 1). -/
opaque schedule : Nat → Transfer

/-- What BF.ENC places for a named descriptor of which the record holds no value: the spec gives the record
a value for each, and no result where it lacks one (R92; log 23). -/
opaque missingFieldValue : Nat → BitVec 8 → Nat

/-- PKT.SIZE of a Packet whose payload is not a whole number of words (R118, R43; log 10). -/
opaque raggedSize : Nat → Nat

/-- A byte of a substituted field of the context payload that leaves the 48 bytes (R182; log 12). -/
opaque payloadOverrunByte : Nat → Nat → Byte

/-- A meter register whose exact value does not fit it (R7, R166; log 13). -/
opaque meterOverflow : Nat → MeterReg → BitVec 64

/-- A block's time at sample rate 0, a division corner: a function of `T0`, the block size and the
block index (R176; log 11). -/
opaque blockTimeAtRateZero : Nat → Nat → Nat → Nat

end Config

end Sys2Proof
end

