-- ==== Sys2Proof/Syntax.lean ====
section
/-! DEFINITION. The records the operations take and return (spec/30_encoding.md rules R60 to R72)
and the operations themselves, one constructor of `Instr` per row of spec/opcode_table.json. -/

namespace Sys2Proof

/-- A name in a BitField layout. The spec leaves names abstract; an 8-bit identifier (log 23). -/
abbrev FieldName := BitVec 8

/-- A descriptor of a BitField layout: a name, or `none` for reserved, and a width (R9, R90). -/
structure Descriptor where
  name : Option FieldName
  width : Nat
deriving DecidableEq, Repr, Inhabited

/-- A record of unsigned values by name (R91, R92). -/
abbrev Record := List (FieldName × Nat)

/-- The eight fields of the Header word (R60, R93). -/
structure Header where
  packetType : BitVec 4
  hasClassId : Bool
  hasTrailer : Bool
  tsm : Bool
  tsi : BitVec 2
  tsf : BitVec 2
  count : BitVec 4
  size : BitVec 16
deriving DecidableEq, Repr, Inhabited

/-- The Trailer record (R66). -/
structure Trailer where
  enables : BitVec 12
  indicators : BitVec 12
  contextCount : Option (BitVec 7)
deriving DecidableEq, Repr, Inhabited

/-- The class identifier's three parts (R65). -/
structure ClassId where
  oui : BitVec 24
  infoClass : BitVec 16
  packetClass : BitVec 16
deriving DecidableEq, Repr, Inhabited

/-- The Packet record: the logical value PKT.ENC takes and PKT.DEC returns (R66). The timestamp is
an unsigned number of picoseconds since the Unix epoch (log 21). -/
structure Packet where
  packetType : BitVec 4
  tsi : BitVec 2
  tsf : BitVec 2
  tsm : Option Bool
  count : BitVec 4
  streamId : Option Word
  timestamp : Option Nat
  oui : Option (BitVec 24)
  infoClass : Option (BitVec 16)
  packetClass : Option (BitVec 16)
  data : Bytes
  trailer : Option Trailer
deriving DecidableEq, Repr, Inhabited

/-- The two rate-limiter instances (R159). -/
inductive Limiter where
  | out
  | ctx
deriving DecidableEq, Repr, Inhabited

/-- The three queues (R28). -/
inductive QueueId where
  | dq
  | oq
  | iq
deriving DecidableEq, Repr, Inhabited

/-- A queue together with an item of its kind: packets for `DQ` and `OQ`, chunks for `IQ` (R28). R195 says
no more of a packet item than that it is one; on its own Q.TRYPUSH takes any byte sequence (log 28). -/
inductive QueueItem where
  | dq (pkt : Bytes)
  | oq (pkt : Bytes)
  | iq (c : Chunk)
deriving DecidableEq, Repr, Inhabited

/-- The three stages (R253). -/
inductive Stage where
  | p
  | o
  | c
deriving DecidableEq, Repr, Inhabited

/-- The configuration registers CR0 to CR29 by name (R14 to R19). -/
inductive CfgReg where
  | frequency
  | bandwidth
  | sampleRate
  | sampleCount
  | ctxFreq
  | dqCap
  | bitRes
  | dataFmt
  | dataSid
  | dataOui
  | dataClass
  | dataTrailer
  | ctxFmt
  | ctxOui
  | ctxClass
  | ctxTrailer
  | ctxSid
  | ctxOff
  | ctxTemplate (k : Fin 12)
deriving DecidableEq, Repr, Inhabited

/-- A configuration register and a value of its width: the operands of CFG.WRITE (R20; log 22). -/
inductive CfgAssign where
  | frequency (v : Word)
  | bandwidth (v : Word)
  | sampleRate (v : Word)
  | sampleCount (v : Word)
  | ctxFreq (v : Word)
  | dqCap (v : Word)
  | bitRes (v : BitVec 8)
  | dataFmt (v : Word)
  | dataSid (v : Word)
  | dataOui (v : Word)
  | dataClass (v : Word)
  | dataTrailer (v : Word)
  | ctxFmt (v : Word)
  | ctxOui (v : Word)
  | ctxClass (v : Word)
  | ctxTrailer (v : Word)
  | ctxSid (v : Word)
  | ctxOff (v : Word)
  | ctxTemplate (k : Fin 12) (v : Word)
deriving DecidableEq, Repr, Inhabited

/-- The registers REG.READ reads: CR0 to CR29 and SR0 to SR6 (R13, R20, R30 to R32). -/
inductive RegId where
  | cfg (r : CfgReg)
  | status
  | err
  | dropDqCnt
  | dropOqCnt
  | decFailCnt
  | mtrRate
  | mtrReports
deriving DecidableEq, Repr, Inhabited

/-- The operations RL.CALL can wrap with a limiter: those that the stage owning it performs, so that no call
writes another stage's registers (R10, R162, R250; log 16). Stage O, limiter `out`: Q.TRYPUSH on `OQ`, Q.POP
on `DQ`, MTR.OBS, and `pushHold`, the push that O.SEND wraps (R205). Stage C, limiter `ctx`: Q.TRYPUSH on
`OQ`, CTX.PAYLOAD, FRAME.CTX, PKT.ENC, and `buildAndPush`, which C.EMIT wraps (R207). -/
inductive WrappedOp : Limiter → Type where
  | tryPush {l : Limiter} (pkt : Bytes) : WrappedOp l
  | pop : WrappedOp .out
  | mtrObs (n : Nat) : WrappedOp .out
  | pushHold : WrappedOp .out
  | ctxPayload : WrappedOp .ctx
  | frameCtx (tod : BitVec 96) : WrappedOp .ctx
  | pktEnc (p : Packet) : WrappedOp .ctx
  | buildAndPush (tod : BitVec 96) : WrappedOp .ctx
deriving DecidableEq, Repr

/-- A packet on the wire but for its type, which the row names: the other Header fields and the
bytes after the Header word (R67). The reserved Header bit is not kept (R75). -/
structure WirePacket where
  layout : Layout
  hasClassId : Bool
  hasTrailer : Bool
  tsm : Bool
  tsi : BitVec 2
  tsf : BitVec 2
  count : BitVec 4
  size : BitVec 16
  body : Bytes
deriving DecidableEq, Repr, Inhabited

/-- The operations of R77 and the wire formats, one constructor per row of spec/opcode_table.json.
START, FRAME.CTX and C.EMIT carry as `tod` the value their read of `TOD` returns (R33; log 7). -/
inductive Instr where
  -- BitField, Header, Trailer
  | bfDec (d : List Descriptor) (w : Word)
  | bfEnc (d : List Descriptor) (v : Record)
  | hdrEnc (h : Header)
  | hdrDec (w : Word)
  | trlEnc (t : Trailer)
  | trlDec (w : Word)
  -- packet codec
  | cidEnc (c : ClassId)
  | cidDec (b : Bytes)
  | tsEnc (ts : Nat) (tsi tsf : BitVec 2)
  | tsDec (sec : Option Word) (frac : Option (BitVec 64))
  | pktSize (p : Packet)
  | pktEnc (p : Packet)
  | pktDec (b : Bytes)
  -- sample packer
  | pack12 (xs : Chunk)
  | unpack12 (b : Bytes)
  -- accumulator
  | accPush (c : Chunk)
  | accEmit
  -- rate limiter and meter
  | rlDue (l : Limiter)
  | rlMark (l : Limiter)
  | rlCall (l : Limiter) (op : WrappedOp l)
  | mtrObs (n : Nat)
  -- framer
  | tsBlock (k : BitVec 64)
  | frameData (blk : Chunk)
  | ctxPayload
  | frameCtx (tod : BitVec 96)
  -- queues
  | qTryPush (item : QueueItem)
  | qPop (q : QueueId)
  -- host commands, stage steps, environment steps
  | start (tod : BitVec 96)
  | stop
  | pLoad
  | pEmit
  | oFetch
  | oSend
  | cEmit (tod : BitVec 96)
  | cExit
  | tick (n : Nat)
  | srcPush (c : Chunk)
  | snkPop
  | stageFault (g : Stage)
  | hostDec (b : Bytes)
  | reset
  | pStop
  | oStop
  | cStop
  | cfgWrite (a : CfgAssign)
  | regRead (r : RegId)
  -- wire words and fields
  | wordHeaderVita (h : Header)
  | wordHeaderListed (h : Header)
  | wordTrailerVita (enables indicators : BitVec 12) (contextEn : Bool) (contextCount : BitVec 7)
  | wordTrailerListed (enables indicators : BitVec 12) (contextEn : Bool) (contextCount : BitVec 7)
  | wordStreamId (sid : Word)
  | wordClassId1 (oui : BitVec 24)
  | wordClassId2 (infoClass packetClass : BitVec 16)
  | wordTsInt (sec : Word)
  | fieldTsFrac (frac : BitVec 64)
  | fieldTriplet (first second : BitVec 12)
  | fieldCtxPayload (b : Bytes)
  -- packets by type
  | pktPtData (p : WirePacket)
  | pktPtDataWithId (p : WirePacket)
  | pktPtExtData (p : WirePacket)
  | pktPtExtDataWithId (p : WirePacket)
  | pktPtContext (p : WirePacket)
  | pktPtExtContext (p : WirePacket)
  | pktUnnamed6 (p : WirePacket)
  | pktUnnamed7 (p : WirePacket)
  | pktUnnamed8 (p : WirePacket)
  | pktUnnamed9 (p : WirePacket)
  | pktUnnamed10 (p : WirePacket)
  | pktUnnamed11 (p : WirePacket)
  | pktUnnamed12 (p : WirePacket)
  | pktUnnamed13 (p : WirePacket)
  | pktUnnamed14 (p : WirePacket)
  | pktUnnamed15 (p : WirePacket)
deriving DecidableEq, Repr, Inhabited

end Sys2Proof
end

