-- ==== Sys2Proof/WellFormed.lean ====
section
/-! DEFINITION. Which terms of `Instr` are operations: the operands that are byte sequences of one fixed
length have it, and TICK's operand is at least 1. Every other operand is as wide as its type, or
unbounded. The decoder yields no other term. -/

namespace Sys2Proof

/-- The instruction's operands are ones the spec gives it (R72, R111, R210). -/
def WellFormed : Instr → Bool
  | .bfDec _ _ => true
  | .bfEnc _ _ => true
  | .hdrEnc _ => true
  | .hdrDec _ => true
  | .trlEnc _ => true
  | .trlDec _ => true
  | .cidEnc _ => true
  | .cidDec b => decide (b.length = 8)
  | .tsEnc _ _ _ => true
  | .tsDec _ _ => true
  | .pktSize _ => true
  | .pktEnc _ => true
  | .pktDec _ => true
  | .pack12 _ => true
  | .unpack12 _ => true
  | .accPush _ => true
  | .accEmit => true
  | .rlDue _ => true
  | .rlMark _ => true
  | .rlCall _ _ => true
  | .mtrObs _ => true
  | .tsBlock _ => true
  | .frameData _ => true
  | .ctxPayload => true
  | .frameCtx _ => true
  | .qTryPush _ => true
  | .qPop _ => true
  | .start _ => true
  | .stop => true
  | .pLoad => true
  | .pEmit => true
  | .oFetch => true
  | .oSend => true
  | .cEmit _ => true
  | .cExit => true
  | .tick n => decide (1 ≤ n)
  | .srcPush _ => true
  | .snkPop => true
  | .stageFault _ => true
  | .hostDec _ => true
  | .reset => true
  | .pStop => true
  | .oStop => true
  | .cStop => true
  | .cfgWrite _ => true
  | .regRead _ => true
  | .wordHeaderVita _ => true
  | .wordHeaderListed _ => true
  | .wordTrailerVita _ _ _ _ => true
  | .wordTrailerListed _ _ _ _ => true
  | .wordStreamId _ => true
  | .wordClassId1 _ => true
  | .wordClassId2 _ _ => true
  | .wordTsInt _ => true
  | .fieldTsFrac _ => true
  | .fieldTriplet _ _ => true
  | .fieldCtxPayload b => decide (b.length = 48)
  | .pktPtData _ => true
  | .pktPtDataWithId _ => true
  | .pktPtExtData _ => true
  | .pktPtExtDataWithId _ => true
  | .pktPtContext _ => true
  | .pktPtExtContext _ => true
  | .pktUnnamed6 _ => true
  | .pktUnnamed7 _ => true
  | .pktUnnamed8 _ => true
  | .pktUnnamed9 _ => true
  | .pktUnnamed10 _ => true
  | .pktUnnamed11 _ => true
  | .pktUnnamed12 _ => true
  | .pktUnnamed13 _ => true
  | .pktUnnamed14 _ => true
  | .pktUnnamed15 _ => true

end Sys2Proof
end

