-- ==== Sys2Proof/Decode.lean ====
section
/-! DEFINITION. From the bytes an operation is presented as to the operation, total on any bytes and
rejecting by name; then the encoder; then `decodeTableWord`. Wire words are laid out as
spec/30_encoding.md rules R60 to R72 say. The OPID byte of a command is R77's; the operand bytes
after it are the model's own encoding (log 2). -/

namespace Sys2Proof

/-! ## Byte order (R6, R41) -/

/-- `beN(v)`: the `n` low bytes of `v`, most significant first (R6). -/
def be : Nat → Nat → Bytes
  | 0, _ => []
  | n + 1, v => BitVec.ofNat 8 (v >>> (8 * n)) :: be n v

/-- `ube(b)`: the unsigned integer a byte sequence holds, most significant byte first (R6). -/
def ube (b : Bytes) : Nat := b.foldl (fun acc x => acc * 256 + x.toNat) 0

/-- The bytes of `b` from offset `off`, `n` of them: `b[off..off+n)` (R6, R8). -/
def slice (b : Bytes) (off n : Nat) : Bytes := (b.drop off).take n

/-! ## Operand formats -/

/-- Why bytes are no operation. -/
inductive DecodeError where
  /-- the bytes end before the operands do -/
  | truncated
  /-- the first byte is no OPID of R77 -/
  | unknownOpid
  /-- an operand byte selects nothing: no such register, queue, stage, operation or presence flag -/
  | badSelector
  /-- an operand field holds a number wider than the operand -/
  | operandRange
deriving DecidableEq, Repr

/-- What reading an operand answers: the operand and the bytes after it. -/
abbrev Parsed (α : Type) := Except DecodeError (α × Bytes)

/-- How an operand of type `α` is written as bytes and read back. -/
structure OperandFormat (α : Type) where
  put : α → Bytes
  get : Bytes → Parsed α

/-- Go on with the operand just read. -/
def parseThen {α β : Type} (r : Parsed α) (k : α → Bytes → Parsed β) : Parsed β :=
  match r with
  | .error e => .error e
  | .ok (a, rest) => k a rest

/-- An unsigned integer in `n` bytes, most significant first. -/
def fmtNat (n : Nat) : OperandFormat Nat where
  put v := be n v
  get b := if b.length < n then .error .truncated else .ok (ube (b.take n), b.drop n)

/-- An operand written as another one; the reading may refuse. -/
def fmtVia {α β : Type} (f : OperandFormat α) (toRaw : β → α) (ofRaw : α → Except DecodeError β) :
    OperandFormat β where
  put v := f.put (toRaw v)
  get b := parseThen (f.get b) fun a rest =>
    match ofRaw a with
    | .error e => .error e
    | .ok v => .ok (v, rest)

/-- `w` bits in `n` bytes; a larger number is refused, never masked (D4). -/
def fmtBits (w n : Nat) : OperandFormat (BitVec w) :=
  fmtVia (fmtNat n) BitVec.toNat fun a =>
    if a < 2 ^ w then .ok (BitVec.ofNat w a) else .error .operandRange

/-- A truth value in one byte, 0 or 1. -/
def fmtBool : OperandFormat Bool :=
  fmtVia (fmtNat 1) Bool.toNat fun a =>
    if a = 0 then .ok false else if a = 1 then .ok true else .error .badSelector

/-- Two operands, one after the other. -/
def fmtPair {α β : Type} (f : OperandFormat α) (g : OperandFormat β) : OperandFormat (α × β) where
  put v := f.put v.1 ++ g.put v.2
  get b := parseThen (f.get b) fun a rest => parseThen (g.get rest) fun c rest' => .ok ((a, c), rest')

/-- A presence byte, 0 or 1, then the value if present. -/
def fmtOption {α : Type} (f : OperandFormat α) : OperandFormat (Option α) where
  put
    | none => fmtBool.put false
    | some a => fmtBool.put true ++ f.put a
  get b := parseThen (fmtBool.get b) fun present rest =>
    if present then parseThen (f.get rest) fun a rest' => .ok (some a, rest') else .ok (none, rest)

/-- Operands one after the other, a byte 1 before each and a byte 0 after the last; each takes at least a
byte, so as many as there are bytes suffice. -/
def parseMany {α : Type} (get : Bytes → Parsed α) : Nat → Bytes → Parsed (List α)
  | 0, _ => .error .truncated
  | n + 1, b => parseThen (fmtBool.get b) fun more rest =>
      if more then
        parseThen (get rest) fun a rest' =>
          parseThen (parseMany get n rest') fun as rest'' => .ok (a :: as, rest'')
      else .ok ([], rest)

/-- A list of any length: each element behind a byte 1, and a byte 0 at the end. -/
def fmtList {α : Type} (f : OperandFormat α) : OperandFormat (List α) where
  put xs := xs.flatMap (fun a => fmtBool.put true ++ f.put a) ++ fmtBool.put false
  get b := parseMany f.get b.length b

/-- `n` raw bytes with no count. -/
def fmtRaw (n : Nat) : OperandFormat Bytes where
  put b := b
  get b := if b.length < n then .error .truncated else .ok (b.take n, b.drop n)

/-- A selector byte, read by `of`, which refuses a byte that selects nothing. -/
def fmtSelector {α : Type} (num : α → Nat) (ofNum : Nat → Option α) : OperandFormat α :=
  fmtVia (fmtNat 1) num fun n =>
    match ofNum n with
    | none => .error .badSelector
    | some a => .ok a

/-! ## The operands of the operations -/

def fmtByte : OperandFormat Byte := fmtBits 8 1
def fmtWord : OperandFormat Word := fmtBits 32 4
def fmtBytes : OperandFormat Bytes := fmtList fmtByte

/-- An unsigned integer of any size: its bytes, most significant first, as a list. -/
def fmtNum : OperandFormat Nat := fmtVia fmtBytes (fun v => be (v.log2 / 8 + 1) v) fun b => .ok (ube b)

def fmtSample : OperandFormat Pair :=
  fmtVia (fmtPair (fmtBits 16 2) (fmtBits 16 2)) (fun p => (p.first, p.second))
    fun a => .ok ⟨a.1, a.2⟩

def fmtChunk : OperandFormat Chunk := fmtList fmtSample

def fmtDescriptor : OperandFormat Descriptor :=
  fmtVia (fmtPair (fmtOption fmtByte) fmtNum) (fun d => (d.name, d.width))
    fun a => .ok ⟨a.1, a.2⟩

def fmtLayout : OperandFormat (List Descriptor) := fmtList fmtDescriptor
def fmtRecord : OperandFormat Record := fmtList (fmtPair fmtByte fmtNum)

def fmtHeader : OperandFormat Header :=
  fmtVia
    (fmtPair (fmtPair (fmtPair (fmtBits 4 1) fmtBool) (fmtPair fmtBool fmtBool))
      (fmtPair (fmtPair (fmtBits 2 1) (fmtBits 2 1)) (fmtPair (fmtBits 4 1) (fmtBits 16 2))))
    (fun h => (((h.packetType, h.hasClassId), (h.hasTrailer, h.tsm)), ((h.tsi, h.tsf), (h.count, h.size))))
    fun a => .ok ⟨a.1.1.1, a.1.1.2, a.1.2.1, a.1.2.2, a.2.1.1, a.2.1.2, a.2.2.1, a.2.2.2⟩

def fmtTrailer : OperandFormat Trailer :=
  fmtVia (fmtPair (fmtPair (fmtBits 12 2) (fmtBits 12 2)) (fmtOption (fmtBits 7 1)))
    (fun t => ((t.enables, t.indicators), t.contextCount))
    fun a => .ok ⟨a.1.1, a.1.2, a.2⟩

def fmtClassId : OperandFormat ClassId :=
  fmtVia (fmtPair (fmtBits 24 3) (fmtPair (fmtBits 16 2) (fmtBits 16 2)))
    (fun c => (c.oui, (c.infoClass, c.packetClass)))
    fun a => .ok ⟨a.1, a.2.1, a.2.2⟩

/-- A value of `TOD`, `TS_W` = 96 bits (R5). -/
def fmtTod : OperandFormat (BitVec 96) := fmtBits 96 12

def fmtPacket : OperandFormat Packet :=
  fmtVia
    (fmtPair
      (fmtPair (fmtPair (fmtBits 4 1) (fmtBits 2 1)) (fmtPair (fmtBits 2 1) (fmtPair (fmtOption fmtBool) (fmtBits 4 1))))
      (fmtPair
        (fmtPair (fmtPair (fmtOption fmtWord) (fmtOption fmtNum))
          (fmtPair (fmtOption (fmtBits 24 3)) (fmtPair (fmtOption (fmtBits 16 2)) (fmtOption (fmtBits 16 2)))))
        (fmtPair fmtBytes (fmtOption fmtTrailer))))
    (fun p => (((p.packetType, p.tsi), (p.tsf, (p.tsm, p.count))),
      (((p.streamId, p.timestamp), (p.oui, (p.infoClass, p.packetClass))), (p.data, p.trailer))))
    fun a => .ok
      { packetType := a.1.1.1, tsi := a.1.1.2, tsf := a.1.2.1, tsm := a.1.2.2.1, count := a.1.2.2.2
        streamId := a.2.1.1.1, timestamp := a.2.1.1.2
        oui := a.2.1.2.1, infoClass := a.2.1.2.2.1, packetClass := a.2.1.2.2.2
        data := a.2.2.1, trailer := a.2.2.2 }

def limiterNum : Limiter → Nat
  | .out => 0
  | .ctx => 1

def limiterOfNum : Nat → Option Limiter
  | 0 => some .out
  | 1 => some .ctx
  | _ => none

def fmtLimiter : OperandFormat Limiter := fmtSelector limiterNum limiterOfNum

def queueNum : QueueId → Nat
  | .dq => 0
  | .oq => 1
  | .iq => 2

def queueOfNum : Nat → Option QueueId
  | 0 => some .dq
  | 1 => some .oq
  | 2 => some .iq
  | _ => none

def stageNum : Stage → Nat
  | .p => 0
  | .o => 1
  | .c => 2

def stageOfNum : Nat → Option Stage
  | 0 => some .p
  | 1 => some .o
  | 2 => some .c
  | _ => none

/-- The register's number n in CRn (R13 to R19). -/
def cfgNum : CfgReg → Nat
  | .frequency => 0
  | .bandwidth => 1
  | .sampleRate => 2
  | .sampleCount => 3
  | .ctxFreq => 4
  | .dqCap => 5
  | .bitRes => 6
  | .dataFmt => 7
  | .dataSid => 8
  | .dataOui => 9
  | .dataClass => 10
  | .dataTrailer => 11
  | .ctxFmt => 12
  | .ctxOui => 13
  | .ctxClass => 14
  | .ctxTrailer => 15
  | .ctxSid => 16
  | .ctxOff => 17
  | .ctxTemplate k => 18 + k.val

/-- The configuration register CRn (R13 to R19). -/
def cfgOfNum : Nat → Option CfgReg
  | 0 => some .frequency
  | 1 => some .bandwidth
  | 2 => some .sampleRate
  | 3 => some .sampleCount
  | 4 => some .ctxFreq
  | 5 => some .dqCap
  | 6 => some .bitRes
  | 7 => some .dataFmt
  | 8 => some .dataSid
  | 9 => some .dataOui
  | 10 => some .dataClass
  | 11 => some .dataTrailer
  | 12 => some .ctxFmt
  | 13 => some .ctxOui
  | 14 => some .ctxClass
  | 15 => some .ctxTrailer
  | 16 => some .ctxSid
  | 17 => some .ctxOff
  | n => if h : n - 18 < 12 then (if 18 ≤ n then some (.ctxTemplate ⟨n - 18, h⟩) else none) else none

def assignReg : CfgAssign → CfgReg
  | .frequency _ => .frequency
  | .bandwidth _ => .bandwidth
  | .sampleRate _ => .sampleRate
  | .sampleCount _ => .sampleCount
  | .ctxFreq _ => .ctxFreq
  | .dqCap _ => .dqCap
  | .bitRes _ => .bitRes
  | .dataFmt _ => .dataFmt
  | .dataSid _ => .dataSid
  | .dataOui _ => .dataOui
  | .dataClass _ => .dataClass
  | .dataTrailer _ => .dataTrailer
  | .ctxFmt _ => .ctxFmt
  | .ctxOui _ => .ctxOui
  | .ctxClass _ => .ctxClass
  | .ctxTrailer _ => .ctxTrailer
  | .ctxSid _ => .ctxSid
  | .ctxOff _ => .ctxOff
  | .ctxTemplate k _ => .ctxTemplate k

def assignValue : CfgAssign → Nat
  | .frequency v => v.toNat
  | .bandwidth v => v.toNat
  | .sampleRate v => v.toNat
  | .sampleCount v => v.toNat
  | .ctxFreq v => v.toNat
  | .dqCap v => v.toNat
  | .bitRes v => v.toNat
  | .dataFmt v => v.toNat
  | .dataSid v => v.toNat
  | .dataOui v => v.toNat
  | .dataClass v => v.toNat
  | .dataTrailer v => v.toNat
  | .ctxFmt v => v.toNat
  | .ctxOui v => v.toNat
  | .ctxClass v => v.toNat
  | .ctxTrailer v => v.toNat
  | .ctxSid v => v.toNat
  | .ctxOff v => v.toNat
  | .ctxTemplate _ v => v.toNat

/-- A configuration register with a value below 2^32; one that does not fit the register's width is
refused (R7, D4). -/
def assignOf (r : CfgReg) (n : Nat) : Except DecodeError CfgAssign :=
  match r with
  | .frequency => .ok (.frequency (BitVec.ofNat 32 n))
  | .bandwidth => .ok (.bandwidth (BitVec.ofNat 32 n))
  | .sampleRate => .ok (.sampleRate (BitVec.ofNat 32 n))
  | .sampleCount => .ok (.sampleCount (BitVec.ofNat 32 n))
  | .ctxFreq => .ok (.ctxFreq (BitVec.ofNat 32 n))
  | .dqCap => .ok (.dqCap (BitVec.ofNat 32 n))
  | .bitRes => if n < 256 then .ok (.bitRes (BitVec.ofNat 8 n)) else .error .operandRange
  | .dataFmt => .ok (.dataFmt (BitVec.ofNat 32 n))
  | .dataSid => .ok (.dataSid (BitVec.ofNat 32 n))
  | .dataOui => .ok (.dataOui (BitVec.ofNat 32 n))
  | .dataClass => .ok (.dataClass (BitVec.ofNat 32 n))
  | .dataTrailer => .ok (.dataTrailer (BitVec.ofNat 32 n))
  | .ctxFmt => .ok (.ctxFmt (BitVec.ofNat 32 n))
  | .ctxOui => .ok (.ctxOui (BitVec.ofNat 32 n))
  | .ctxClass => .ok (.ctxClass (BitVec.ofNat 32 n))
  | .ctxTrailer => .ok (.ctxTrailer (BitVec.ofNat 32 n))
  | .ctxSid => .ok (.ctxSid (BitVec.ofNat 32 n))
  | .ctxOff => .ok (.ctxOff (BitVec.ofNat 32 n))
  | .ctxTemplate k => .ok (.ctxTemplate k (BitVec.ofNat 32 n))

def fmtCfgReg : OperandFormat CfgReg := fmtSelector cfgNum cfgOfNum

/-- A register number and a value in four bytes. -/
def fmtAssign : OperandFormat CfgAssign :=
  fmtVia (fmtPair fmtCfgReg (fmtNat 4)) (fun a => (assignReg a, assignValue a))
    fun a => assignOf a.1 a.2

/-- CRn is selected by n, SRn by 128 + n. -/
def regNum : RegId → Nat
  | .cfg r => cfgNum r
  | .status => 128
  | .err => 129
  | .dropDqCnt => 130
  | .dropOqCnt => 131
  | .decFailCnt => 132
  | .mtrRate => 133
  | .mtrReports => 134

def regOfNum : Nat → Option RegId
  | 128 => some .status
  | 129 => some .err
  | 130 => some .dropDqCnt
  | 131 => some .dropOqCnt
  | 132 => some .decFailCnt
  | 133 => some .mtrRate
  | 134 => some .mtrReports
  | n => (cfgOfNum n).map .cfg

/-- A selector byte for the queue, then the item. -/
def fmtItem : OperandFormat QueueItem where
  put
    | .dq b => (fmtNat 1).put 0 ++ fmtBytes.put b
    | .oq b => (fmtNat 1).put 1 ++ fmtBytes.put b
    | .iq c => (fmtNat 1).put 2 ++ fmtChunk.put c
  get b := parseThen ((fmtNat 1).get b) fun n rest =>
    match n with
    | 0 => parseThen (fmtBytes.get rest) fun a r => .ok (.dq a, r)
    | 1 => parseThen (fmtBytes.get rest) fun a r => .ok (.oq a, r)
    | 2 => parseThen (fmtChunk.get rest) fun a r => .ok (.iq a, r)
    | _ => .error .badSelector

/-- A selector byte for the operation of stage O that its limiter wraps, then its operand. -/
def fmtWrappedOut : OperandFormat (WrappedOp .out) where
  put
    | .tryPush pkt => (fmtNat 1).put 0 ++ fmtBytes.put pkt
    | .pop => (fmtNat 1).put 1
    | .mtrObs n => (fmtNat 1).put 2 ++ fmtNum.put n
    | .pushHold => (fmtNat 1).put 3
  get b := parseThen ((fmtNat 1).get b) fun n rest =>
    match n with
    | 0 => parseThen (fmtBytes.get rest) fun a r => .ok (.tryPush a, r)
    | 1 => .ok (.pop, rest)
    | 2 => parseThen (fmtNum.get rest) fun a r => .ok (.mtrObs a, r)
    | 3 => .ok (.pushHold, rest)
    | _ => .error .badSelector

/-- A selector byte for the operation of stage C that its limiter wraps, then its operand. -/
def fmtWrappedCtx : OperandFormat (WrappedOp .ctx) where
  put
    | .tryPush pkt => (fmtNat 1).put 0 ++ fmtBytes.put pkt
    | .ctxPayload => (fmtNat 1).put 1
    | .frameCtx tod => (fmtNat 1).put 2 ++ fmtTod.put tod
    | .pktEnc p => (fmtNat 1).put 3 ++ fmtPacket.put p
    | .buildAndPush tod => (fmtNat 1).put 4 ++ fmtTod.put tod
  get b := parseThen ((fmtNat 1).get b) fun n rest =>
    match n with
    | 0 => parseThen (fmtBytes.get rest) fun a r => .ok (.tryPush a, r)
    | 1 => .ok (.ctxPayload, rest)
    | 2 => parseThen (fmtTod.get rest) fun a r => .ok (.frameCtx a, r)
    | 3 => parseThen (fmtPacket.get rest) fun a r => .ok (.pktEnc a, r)
    | 4 => parseThen (fmtTod.get rest) fun a r => .ok (.buildAndPush a, r)
    | _ => .error .badSelector

/-- The operation wrapped by a limiter. -/
def fmtWrapped : (l : Limiter) → OperandFormat (WrappedOp l)
  | .out => fmtWrappedOut
  | .ctx => fmtWrappedCtx

/-- The limiter of RL.CALL, then the operation it wraps. -/
def fmtCall : OperandFormat ((l : Limiter) × WrappedOp l) where
  put v := fmtLimiter.put v.1 ++ (fmtWrapped v.1).put v.2
  get b := parseThen (fmtLimiter.get b) fun l rest =>
    parseThen ((fmtWrapped l).get rest) fun op rest' => .ok (⟨l, op⟩, rest')

/-- The number of ticks, held as one less, so that every operand is at least 1 (R210). -/
def fmtTicks : OperandFormat Nat :=
  fmtVia fmtNum (fun n => n - 1) fun a => .ok (a + 1)

def fmtTsEnc : OperandFormat (Nat × (BitVec 2 × BitVec 2)) :=
  fmtPair fmtNum (fmtPair (fmtBits 2 1) (fmtBits 2 1))

def fmtTsDec : OperandFormat (Option Word × Option (BitVec 64)) :=
  fmtPair (fmtOption fmtWord) (fmtOption (fmtBits 64 8))

def fmtQueue : OperandFormat QueueId := fmtSelector queueNum queueOfNum
def fmtStage : OperandFormat Stage := fmtSelector stageNum stageOfNum
def fmtReg : OperandFormat RegId := fmtSelector regNum regOfNum

/-! ## Wire words (R60 to R65, R69) -/

/-- The fields of a Header word at the bit positions of R60 (`VITA`) and R61 (`LISTED`); the
reserved bit is not read (R75). -/
def readHeader : Layout → Word → Header
  | .vita, w =>
    { packetType := w.extractLsb' 28 4, hasClassId := w.getLsbD 27, hasTrailer := w.getLsbD 26
      tsm := w.getLsbD 24, tsi := w.extractLsb' 22 2, tsf := w.extractLsb' 20 2
      count := w.extractLsb' 16 4, size := w.extractLsb' 0 16 }
  | .listed, w =>
    { packetType := w.extractLsb' 0 4, hasClassId := w.getLsbD 4, hasTrailer := w.getLsbD 5
      tsm := w.getLsbD 7, tsi := w.extractLsb' 8 2, tsf := w.extractLsb' 10 2
      count := w.extractLsb' 12 4, size := w.extractLsb' 16 16 }

/-- The Header word with the reserved bit 0, fields laid side by side as R60 and R61 list them. -/
def headerWord : Layout → Header → Word
  | .vita, h =>
    h.packetType ++ BitVec.ofBool h.hasClassId ++ BitVec.ofBool h.hasTrailer ++ (0 : BitVec 1)
      ++ BitVec.ofBool h.tsm ++ h.tsi ++ h.tsf ++ h.count ++ h.size
  | .listed, h =>
    h.size ++ h.count ++ h.tsf ++ h.tsi ++ BitVec.ofBool h.tsm ++ (0 : BitVec 1)
      ++ BitVec.ofBool h.hasTrailer ++ BitVec.ofBool h.hasClassId ++ h.packetType

/-- A wire packet's Header under the type its row names. -/
def WirePacket.header (pt : BitVec 4) (p : WirePacket) : Header :=
  { packetType := pt, hasClassId := p.hasClassId, hasTrailer := p.hasTrailer, tsm := p.tsm
    tsi := p.tsi, tsf := p.tsf, count := p.count, size := p.size }

/-- A wire packet's bytes: the Header word and the bytes after it (R67). -/
def WirePacket.bytes (pt : BitVec 4) (p : WirePacket) : Bytes :=
  be 4 (headerWord p.layout (p.header pt)).toNat ++ p.body

/-- The row of a packet by its type; all 16 values are packets (R63, R75). -/
def packetRow (pt : BitVec 4) (p : WirePacket) : Instr :=
  match pt.toNat with
  | 0 => .pktPtData p
  | 1 => .pktPtDataWithId p
  | 2 => .pktPtExtData p
  | 3 => .pktPtExtDataWithId p
  | 4 => .pktPtContext p
  | 5 => .pktPtExtContext p
  | 6 => .pktUnnamed6 p
  | 7 => .pktUnnamed7 p
  | 8 => .pktUnnamed8 p
  | 9 => .pktUnnamed9 p
  | 10 => .pktUnnamed10 p
  | 11 => .pktUnnamed11 p
  | 12 => .pktUnnamed12 p
  | 13 => .pktUnnamed13 p
  | 14 => .pktUnnamed14 p
  | _ => .pktUnnamed15 p

/-- A packet is its Header word and everything after it; a transport gives the bytes of exactly one
packet, and whether `size` agrees is for PKT.DEC to say (R120, R252). -/
def decodePacket (l : Layout) (b : Bytes) : Except DecodeError Instr :=
  match (fmtNat 4).get b with
  | .error e => .error e
  | .ok (w, rest) =>
    let h := readHeader l (BitVec.ofNat 32 w)
    .ok (packetRow h.packetType
      { layout := l, hasClassId := h.hasClassId, hasTrailer := h.hasTrailer, tsm := h.tsm
        tsi := h.tsi, tsf := h.tsf, count := h.count, size := h.size, body := rest })

/-! ## The decoder -/

/-- The instruction made from an operand just read; bytes after the operands are not read (log 2). -/
def build {α : Type} (f : OperandFormat α) (b : Bytes) (mk : α → Instr) : Except DecodeError Instr :=
  match f.get b with
  | .error e => .error e
  | .ok (a, _) => .ok (mk a)

/-- A wire word, field or packet (R60 to R72). -/
def decodeWire (f : WireFormat) (b : Bytes) : Except DecodeError Instr :=
  match f with
  | .headerVita => build fmtWord b fun w => .wordHeaderVita (readHeader .vita w)
  | .headerListed => build fmtWord b fun w => .wordHeaderListed (readHeader .listed w)
  | .trailerVita => build fmtWord b fun w =>
      .wordTrailerVita (w.extractLsb' 20 12) (w.extractLsb' 8 12) (w.getLsbD 7) (w.extractLsb' 0 7)
  | .trailerListed => build fmtWord b fun w =>
      .wordTrailerListed (w.extractLsb' 0 12) (w.extractLsb' 12 12) (w.getLsbD 24) (w.extractLsb' 25 7)
  | .streamId => build fmtWord b .wordStreamId
  | .classId1 => build fmtWord b fun w => .wordClassId1 (w.extractLsb' 0 24)
  | .classId2 => build fmtWord b fun w => .wordClassId2 (w.extractLsb' 16 16) (w.extractLsb' 0 16)
  | .tsInt => build fmtWord b .wordTsInt
  | .tsFrac => build (fmtBits 64 8) b .fieldTsFrac
  | .triplet => build (fmtBits 24 3) b fun t => .fieldTriplet (t.extractLsb' 12 12) (t.extractLsb' 0 12)
  | .ctxPayload => build (fmtRaw 48) b .fieldCtxPayload
  | .packet l => decodePacket l b

/-- The operands of the operation with identifier `op` (R77). -/
def decodeOperands (op : Nat) (b : Bytes) : Except DecodeError Instr :=
  match op with
  | 0x10 => build (fmtPair fmtLayout fmtWord) b fun a => .bfDec a.1 a.2
  | 0x11 => build (fmtPair fmtLayout fmtRecord) b fun a => .bfEnc a.1 a.2
  | 0x12 => build fmtHeader b .hdrEnc
  | 0x13 => build fmtWord b .hdrDec
  | 0x14 => build fmtTrailer b .trlEnc
  | 0x15 => build fmtWord b .trlDec
  | 0x20 => build fmtClassId b .cidEnc
  | 0x21 => build (fmtRaw 8) b .cidDec
  | 0x22 => build fmtTsEnc b fun a => .tsEnc a.1 a.2.1 a.2.2
  | 0x23 => build fmtTsDec b fun a => .tsDec a.1 a.2
  | 0x24 => build fmtPacket b .pktSize
  | 0x25 => build fmtPacket b .pktEnc
  | 0x26 => build fmtBytes b .pktDec
  | 0x30 => build fmtChunk b .pack12
  | 0x31 => build fmtBytes b .unpack12
  | 0x40 => build fmtChunk b .accPush
  | 0x41 => .ok .accEmit
  | 0x50 => build fmtLimiter b .rlDue
  | 0x51 => build fmtLimiter b .rlMark
  | 0x52 => build fmtCall b fun a => .rlCall a.1 a.2
  | 0x53 => build fmtNum b .mtrObs
  | 0x60 => build (fmtBits 64 8) b .tsBlock
  | 0x61 => build fmtChunk b .frameData
  | 0x62 => .ok .ctxPayload
  | 0x63 => build fmtTod b .frameCtx
  | 0x70 => build fmtItem b .qTryPush
  | 0x71 => build fmtQueue b .qPop
  | 0x80 => build fmtTod b .start
  | 0x81 => .ok .stop
  | 0x82 => .ok .pLoad
  | 0x83 => .ok .pEmit
  | 0x84 => .ok .oFetch
  | 0x85 => .ok .oSend
  | 0x86 => build fmtTod b .cEmit
  | 0x87 => .ok .cExit
  | 0x88 => build fmtTicks b .tick
  | 0x89 => build fmtChunk b .srcPush
  | 0x8A => .ok .snkPop
  | 0x8B => build fmtStage b .stageFault
  | 0x8C => build fmtBytes b .hostDec
  | 0x8D => .ok .reset
  | 0x8E => .ok .pStop
  | 0x8F => .ok .oStop
  | 0x90 => .ok .cStop
  | 0x91 => build fmtAssign b .cfgWrite
  | 0x92 => build fmtReg b .regRead
  | _ => .error .unknownOpid

/-- A command: the OPID byte, then the operands. -/
def decodeCommand : Bytes → Except DecodeError Instr
  | [] => .error .truncated
  | op :: rest => decodeOperands op.toNat rest

/-- The operation a transfer presents. -/
def decode (t : Transfer) : Except DecodeError Instr :=
  match t.channel with
  | .command => decodeCommand t.bytes
  | .wire f => decodeWire f t.bytes

/-! ## The encoder -/

/-- A command's transfer. -/
def command (op : Nat) (operands : Bytes) : Transfer := ⟨.command, BitVec.ofNat 8 op :: operands⟩

/-- A packet's transfer. -/
def packetTransfer (pt : BitVec 4) (p : WirePacket) : Transfer := ⟨.wire (.packet p.layout), p.bytes pt⟩

/-- The bytes of an instruction, from the same formats. -/
def encode : Instr → Transfer
  | .bfDec d w => command 0x10 ((fmtPair fmtLayout fmtWord).put (d, w))
  | .bfEnc d v => command 0x11 ((fmtPair fmtLayout fmtRecord).put (d, v))
  | .hdrEnc h => command 0x12 (fmtHeader.put h)
  | .hdrDec w => command 0x13 (fmtWord.put w)
  | .trlEnc t => command 0x14 (fmtTrailer.put t)
  | .trlDec w => command 0x15 (fmtWord.put w)
  | .cidEnc c => command 0x20 (fmtClassId.put c)
  | .cidDec b => command 0x21 ((fmtRaw 8).put b)
  | .tsEnc ts tsi tsf => command 0x22 (fmtTsEnc.put (ts, tsi, tsf))
  | .tsDec sec frac => command 0x23 (fmtTsDec.put (sec, frac))
  | .pktSize p => command 0x24 (fmtPacket.put p)
  | .pktEnc p => command 0x25 (fmtPacket.put p)
  | .pktDec b => command 0x26 (fmtBytes.put b)
  | .pack12 xs => command 0x30 (fmtChunk.put xs)
  | .unpack12 b => command 0x31 (fmtBytes.put b)
  | .accPush c => command 0x40 (fmtChunk.put c)
  | .accEmit => command 0x41 []
  | .rlDue l => command 0x50 (fmtLimiter.put l)
  | .rlMark l => command 0x51 (fmtLimiter.put l)
  | .rlCall l op => command 0x52 (fmtCall.put ⟨l, op⟩)
  | .mtrObs n => command 0x53 (fmtNum.put n)
  | .tsBlock k => command 0x60 ((fmtBits 64 8).put k)
  | .frameData blk => command 0x61 (fmtChunk.put blk)
  | .ctxPayload => command 0x62 []
  | .frameCtx tod => command 0x63 (fmtTod.put tod)
  | .qTryPush item => command 0x70 (fmtItem.put item)
  | .qPop q => command 0x71 (fmtQueue.put q)
  | .start tod => command 0x80 (fmtTod.put tod)
  | .stop => command 0x81 []
  | .pLoad => command 0x82 []
  | .pEmit => command 0x83 []
  | .oFetch => command 0x84 []
  | .oSend => command 0x85 []
  | .cEmit tod => command 0x86 (fmtTod.put tod)
  | .cExit => command 0x87 []
  | .tick n => command 0x88 (fmtTicks.put n)
  | .srcPush c => command 0x89 (fmtChunk.put c)
  | .snkPop => command 0x8A []
  | .stageFault g => command 0x8B (fmtStage.put g)
  | .hostDec b => command 0x8C (fmtBytes.put b)
  | .reset => command 0x8D []
  | .pStop => command 0x8E []
  | .oStop => command 0x8F []
  | .cStop => command 0x90 []
  | .cfgWrite a => command 0x91 (fmtAssign.put a)
  | .regRead r => command 0x92 (fmtReg.put r)
  | .wordHeaderVita h => ⟨.wire .headerVita, fmtWord.put (headerWord .vita h)⟩
  | .wordHeaderListed h => ⟨.wire .headerListed, fmtWord.put (headerWord .listed h)⟩
  | .wordTrailerVita e i x c => ⟨.wire .trailerVita, fmtWord.put (e ++ i ++ BitVec.ofBool x ++ c)⟩
  | .wordTrailerListed e i x c => ⟨.wire .trailerListed, fmtWord.put (c ++ BitVec.ofBool x ++ i ++ e)⟩
  | .wordStreamId sid => ⟨.wire .streamId, fmtWord.put sid⟩
  | .wordClassId1 oui => ⟨.wire .classId1, fmtWord.put ((0 : BitVec 8) ++ oui)⟩
  | .wordClassId2 ic pc => ⟨.wire .classId2, fmtWord.put (ic ++ pc)⟩
  | .wordTsInt sec => ⟨.wire .tsInt, fmtWord.put sec⟩
  | .fieldTsFrac frac => ⟨.wire .tsFrac, (fmtBits 64 8).put frac⟩
  | .fieldTriplet a b => ⟨.wire .triplet, (fmtBits 24 3).put (a ++ b)⟩
  | .fieldCtxPayload b => ⟨.wire .ctxPayload, (fmtRaw 48).put b⟩
  | .pktPtData p => packetTransfer 0 p
  | .pktPtDataWithId p => packetTransfer 1 p
  | .pktPtExtData p => packetTransfer 2 p
  | .pktPtExtDataWithId p => packetTransfer 3 p
  | .pktPtContext p => packetTransfer 4 p
  | .pktPtExtContext p => packetTransfer 5 p
  | .pktUnnamed6 p => packetTransfer 6 p
  | .pktUnnamed7 p => packetTransfer 7 p
  | .pktUnnamed8 p => packetTransfer 8 p
  | .pktUnnamed9 p => packetTransfer 9 p
  | .pktUnnamed10 p => packetTransfer 10 p
  | .pktUnnamed11 p => packetTransfer 11 p
  | .pktUnnamed12 p => packetTransfer 12 p
  | .pktUnnamed13 p => packetTransfer 13 p
  | .pktUnnamed14 p => packetTransfer 14 p
  | .pktUnnamed15 p => packetTransfer 15 p

/-! ## Operation identifiers -/

/-- The operation's 8-bit identifier (R77); a wire-format row has none. -/
def opid : Instr → Option Byte
  | .bfDec _ _ => some 0x10
  | .bfEnc _ _ => some 0x11
  | .hdrEnc _ => some 0x12
  | .hdrDec _ => some 0x13
  | .trlEnc _ => some 0x14
  | .trlDec _ => some 0x15
  | .cidEnc _ => some 0x20
  | .cidDec _ => some 0x21
  | .tsEnc _ _ _ => some 0x22
  | .tsDec _ _ => some 0x23
  | .pktSize _ => some 0x24
  | .pktEnc _ => some 0x25
  | .pktDec _ => some 0x26
  | .pack12 _ => some 0x30
  | .unpack12 _ => some 0x31
  | .accPush _ => some 0x40
  | .accEmit => some 0x41
  | .rlDue _ => some 0x50
  | .rlMark _ => some 0x51
  | .rlCall _ _ => some 0x52
  | .mtrObs _ => some 0x53
  | .tsBlock _ => some 0x60
  | .frameData _ => some 0x61
  | .ctxPayload => some 0x62
  | .frameCtx _ => some 0x63
  | .qTryPush _ => some 0x70
  | .qPop _ => some 0x71
  | .start _ => some 0x80
  | .stop => some 0x81
  | .pLoad => some 0x82
  | .pEmit => some 0x83
  | .oFetch => some 0x84
  | .oSend => some 0x85
  | .cEmit _ => some 0x86
  | .cExit => some 0x87
  | .tick _ => some 0x88
  | .srcPush _ => some 0x89
  | .snkPop => some 0x8A
  | .stageFault _ => some 0x8B
  | .hostDec _ => some 0x8C
  | .reset => some 0x8D
  | .pStop => some 0x8E
  | .oStop => some 0x8F
  | .cStop => some 0x90
  | .cfgWrite _ => some 0x91
  | .regRead _ => some 0x92
  | .wordHeaderVita _ => none
  | .wordHeaderListed _ => none
  | .wordTrailerVita _ _ _ _ => none
  | .wordTrailerListed _ _ _ _ => none
  | .wordStreamId _ => none
  | .wordClassId1 _ => none
  | .wordClassId2 _ _ => none
  | .wordTsInt _ => none
  | .fieldTsFrac _ => none
  | .fieldTriplet _ _ => none
  | .fieldCtxPayload _ => none
  | .pktPtData _ => none
  | .pktPtDataWithId _ => none
  | .pktPtExtData _ => none
  | .pktPtExtDataWithId _ => none
  | .pktPtContext _ => none
  | .pktPtExtContext _ => none
  | .pktUnnamed6 _ => none
  | .pktUnnamed7 _ => none
  | .pktUnnamed8 _ => none
  | .pktUnnamed9 _ => none
  | .pktUnnamed10 _ => none
  | .pktUnnamed11 _ => none
  | .pktUnnamed12 _ => none
  | .pktUnnamed13 _ => none
  | .pktUnnamed14 _ => none
  | .pktUnnamed15 _ => none

/-! ## A row of the opcode table as a transfer -/

/-- Operand bytes of zeros, as many as any command with operands of zeros reads. -/
def zeroOperands : Bytes := List.replicate 64 0

/-- The transfer of an instruction whose bits, as spec/opcode_table.json numbers them, are `w`, with
every later bit 0. Eight bits are an OPID. Wire words do not say their format, so the number of bits
chooses one (log 3): 24 a triplet, 32 a packet's Header word (`VITA`) followed by as many words of
zeros as its `size` announces, 64 a fractional timestamp, 384 a context payload. -/
def tableTransfer (nbits w : Nat) : Option Transfer :=
  match nbits with
  | 8 => some ⟨.command, be 1 w ++ zeroOperands⟩
  | 24 => some ⟨.wire .triplet, be 3 w⟩
  | 32 => some ⟨.wire (.packet .vita),
      be 4 w ++ List.replicate (4 * ((readHeader .vita (BitVec.ofNat 32 w)).size.toNat - 1)) 0⟩
  | 64 => some ⟨.wire .tsFrac, be 8 w⟩
  | 384 => some ⟨.wire .ctxPayload, be 48 w⟩
  | _ => none

/-- The instruction the decoder reads from an opcode-table row's bits. -/
def decodeTableWord (nbits w : Nat) : Option Instr :=
  match tableTransfer nbits w with
  | none => none
  | some t =>
    match decode t with
    | .error _ => none
    | .ok i => some i

end Sys2Proof
end

