-- ==== Sys2Proof/Machine/State.lean ====
section
/-! DEFINITION. The state of VRTB (spec/10_state.md), the results its operations return, the error
codes of spec/60_exceptions.md rule R231, the ways a step can stop, and the state after reset
(spec/70_reset_and_hazards.md rule R260). -/

namespace Sys2Proof.Machine

/-- The codes of R231. `cfgInputFormat` belongs to a collaborator outside the core and the two drop
codes are never recorded: no operation produces any of the three as an error. -/
inductive ErrCode where
  | cfgBitRes
  | cfgSampleRate
  | cfgBlockSize
  | cfgQueueCap
  | classId
  | tsMissing
  | fieldRange
  | payloadAlign
  | sizeOverflow
  | tsRange
  | bfDesc
  | cfgInputFormat
  | cfgCtxTemplate
  | sidMissing
  | cfgReserved
  | decShort
  | decUnaligned
  | decSizeMismatch
  | decTruncated
  | dropDq
  | dropOq
  | stageFault
deriving DecidableEq, Repr, Inhabited

/-- What an operation returns to whoever performed it. The spec's pure operations have a result and
no register that holds it; the model keeps the last one in `State.out` (log 8). -/
inductive Result where
  /-- the operation is complete and returns nothing -/
  | done
  /-- the operation's guard is false: it has no step and the agent waits (R196, R200, U31; log 4) -/
  | held
  /-- Q.TRYPUSH: the item is queued (R195) -/
  | ok
  /-- Q.TRYPUSH: the queue is full and the item is dropped (R195); also SRC's push to a full queue -/
  | full
  | bool (b : Bool)
  | byte (v : Byte)
  | word (v : Word)
  | dword (v : BitVec 64)
  | nat (n : Nat)
  | timestamp (t : Option Nat)
  | record (r : Record)
  | header (h : Header)
  | trailer (t : Trailer)
  | classId (c : ClassId)
  | oui (v : BitVec 24)
  | classCodes (infoClass packetClass : BitVec 16)
  | bytes (b : Bytes)
  | values (vs : List (BitVec 12))
  | pairs (c : Chunk)
  | packet (p : Packet)
  /-- the three substituted fields of a context payload, and whether the rest is the template (R72) -/
  | ctxFields (bandwidth frequency sampleRate : Word) (isTemplate : Bool)
  /-- the operation reports an error (R230) -/
  | error (e : ErrCode)
deriving DecidableEq, Repr, Inhabited

/-- The configuration registers CR0 to CR29 (R14 to R19). -/
structure Cfg where
  frequency : Word
  bandwidth : Word
  sampleRate : Word
  sampleCount : Word
  ctxFreq : Word
  dqCap : Word
  bitRes : BitVec 8
  dataFmt : Word
  dataSid : Word
  dataOui : Word
  dataClass : Word
  dataTrailer : Word
  ctxFmt : Word
  ctxOui : Word
  ctxClass : Word
  ctxTrailer : Word
  ctxSid : Word
  ctxOff : Word
  ctxTemplate : Vector Word 12
deriving DecidableEq, Repr

/-- Every configuration register 0 (R34). -/
def Cfg.reset : Cfg where
  frequency := 0
  bandwidth := 0
  sampleRate := 0
  sampleCount := 0
  ctxFreq := 0
  dqCap := 0
  bitRes := 0
  dataFmt := 0
  dataSid := 0
  dataOui := 0
  dataClass := 0
  dataTrailer := 0
  ctxFmt := 0
  ctxOui := 0
  ctxClass := 0
  ctxTrailer := 0
  ctxSid := 0
  ctxOff := 0
  ctxTemplate := Vector.replicate 12 0

/-- The meter's registers and its two outputs (R27, R32). -/
structure Meter where
  cnt : BitVec 32
  last : Option Nat
  bytes : BitVec 64
  winStart : Nat
  inst : BitVec 64
  rate : BitVec 64
  reports : BitVec 32
deriving DecidableEq, Repr

/-- The meter's reset values (R34). -/
def Meter.reset : Meter where
  cnt := 0
  last := none
  bytes := 0
  winStart := 0
  inst := 0
  rate := 0
  reports := 0

/-- `P_STATE`; the value 3 is reserved and never written (R29). -/
inductive PState where
  | off
  | run
  | dead
deriving DecidableEq, Repr, Inhabited

/-- `O_STATE` (R29). -/
inductive OState where
  | off
  | wait
  | holding
  | dead
deriving DecidableEq, Repr, Inhabited

/-- `C_STATE` (R29). -/
inductive CState where
  | off
  | run
  | done
  | dead
deriving DecidableEq, Repr, Inhabited

/-- The state of VRTB (R10), the environment's tick counter, and the model's own fields. -/
structure State where
  /-- the OPEN parameters (R5); no operation writes them (log 5) -/
  params : Params
  /-- CR0 to CR29 (R14 to R19) -/
  cfg : Cfg
  /-- `ACC`, oldest pair first (R21) -/
  acc : Chunk
  /-- `BLK_IDX` (R22) -/
  blkIdx : BitVec 64
  /-- `SEQ` (R23) -/
  seq : BitVec 4
  /-- `CTX_SEQ` (R23) -/
  ctxSeq : BitVec 4
  /-- `T0`, picoseconds since the Unix epoch (R24) -/
  t0 : BitVec 96
  /-- `O_HOLD` (R25) -/
  oHold : Option Bytes
  /-- `RL_OUT_LAST` (R26) -/
  rlOutLast : Option Nat
  /-- `RL_CTX_LAST` (R26) -/
  rlCtxLast : Option Nat
  /-- the throughput meter (R27, R32) -/
  mtr : Meter
  /-- `IQ`, oldest chunk first (R28) -/
  iq : List Chunk
  /-- `DQ`, oldest packet first (R28) -/
  dq : List Bytes
  /-- `OQ`, oldest packet first (R28) -/
  oq : List Bytes
  /-- `P_STATE` (R29) -/
  pState : PState
  /-- `O_STATE` (R29) -/
  oState : OState
  /-- `C_STATE` (R29) -/
  cState : CState
  /-- `STATUS.RUNNING` (R30) -/
  running : Bool
  /-- `STATUS.CFG_ERR` (R30) -/
  cfgErr : Bool
  /-- `STATUS.STOP_REQ` (R30) -/
  stopReq : Bool
  /-- `STATUS.DEGRADED` (R30) -/
  degraded : Bool
  /-- `STATUS.DROP_DQ` (R30) -/
  dropDq : Bool
  /-- `STATUS.DROP_OQ` (R30) -/
  dropOq : Bool
  /-- `STATUS.DEC_FAIL` (R30) -/
  decFail : Bool
  /-- `STATUS.ENC_FAIL` (R30) -/
  encFail : Bool
  /-- `ERR.ERR_CODE` (R31) -/
  errCode : BitVec 8
  /-- `ERR.ERR_OP` (R31) -/
  errOp : BitVec 8
  /-- `DROP_DQ_CNT` (R32) -/
  dropDqCnt : BitVec 32
  /-- `DROP_OQ_CNT` (R32) -/
  dropOqCnt : BitVec 32
  /-- `DEC_FAIL_CNT` (R32) -/
  decFailCnt : BitVec 32
  /-- `NOW`, in ticks (R33; log 6) -/
  now : Nat
  /-- the model's own: the operations presented and not yet performed (log 1) -/
  agenda : List Transfer
  /-- the model's own: how many free values have been drawn (log 9) -/
  drawn : Nat
  /-- the model's own: the result the last operation returned (log 8) -/
  out : Result
deriving DecidableEq, Repr

/-- The model's one fault. The spec's own errors stop nothing (R230). -/
inductive Fault where
  /-- Raised by `step` alone: the bytes presented are no operation of R77's closed set and no wire
  format. Safe: nothing follows it, and VRTB has no step that reads such bytes (log 2). -/
  | noSuchOperation (why : DecodeError)
deriving DecidableEq, Repr

/-- Why a step has no meaning. -/
inductive Refusal where
  /-- An instruction without a meaning, by its mnemonic. No arm of `exec` answers it. Safe. -/
  | notModelled (mnemonic : String)
  /-- Raised by ACC.PUSH, Q.TRYPUSH on `IQ` and SRC.PUSH: the chunk is longer than `MAX_CHUNK`, an input
  the spec tells a model to refuse (U12, R252; log 14). Safe: nothing follows it. -/
  | chunkTooLong
deriving DecidableEq, Repr

/-- VRTB after reset, every register at the value of R34. `now`, `params`, `agenda`, `drawn` and `out`
are not state of VRTB: their values here are the model's (log 1, 5, 6, 8, 9). -/
def State.reset : State where
  params := Config.params
  cfg := Cfg.reset
  acc := []
  blkIdx := 0
  seq := 0
  ctxSeq := 0
  t0 := 0
  oHold := none
  rlOutLast := none
  rlCtxLast := none
  mtr := Meter.reset
  iq := []
  dq := []
  oq := []
  pState := .off
  oState := .off
  cState := .off
  running := false
  cfgErr := false
  stopReq := false
  degraded := false
  dropDq := false
  dropOq := false
  decFail := false
  encFail := false
  errCode := 0
  errOp := 0
  dropDqCnt := 0
  dropOqCnt := 0
  decFailCnt := 0
  now := 0
  agenda := []
  drawn := 0
  out := .done

end Sys2Proof.Machine
end

