-- ==== Sys2Proof/Machine/Operands.lean ====
section
/-! DEFINITION. Reading and writing registers and their fields: the configuration registers by name
(R20), the framing descriptors (R15 to R18), the template's bytes (R19) and the two limiters'
operands (R159). -/

namespace Sys2Proof.Machine

/-! ## Configuration registers -/

/-- The value of a configuration register, `CFG_BIT_RES` in its own 8 bits (R14, R20). -/
def Cfg.read (c : Cfg) : CfgReg → Result
  | .frequency => .word c.frequency
  | .bandwidth => .word c.bandwidth
  | .sampleRate => .word c.sampleRate
  | .sampleCount => .word c.sampleCount
  | .ctxFreq => .word c.ctxFreq
  | .dqCap => .word c.dqCap
  | .bitRes => .byte c.bitRes
  | .dataFmt => .word c.dataFmt
  | .dataSid => .word c.dataSid
  | .dataOui => .word c.dataOui
  | .dataClass => .word c.dataClass
  | .dataTrailer => .word c.dataTrailer
  | .ctxFmt => .word c.ctxFmt
  | .ctxOui => .word c.ctxOui
  | .ctxClass => .word c.ctxClass
  | .ctxTrailer => .word c.ctxTrailer
  | .ctxSid => .word c.ctxSid
  | .ctxOff => .word c.ctxOff
  | .ctxTemplate k => .word (c.ctxTemplate.get k)

/-- `CRn <- v`, the whole register (R20). -/
def Cfg.write (c : Cfg) : CfgAssign → Cfg
  | .frequency v => { c with frequency := v }
  | .bandwidth v => { c with bandwidth := v }
  | .sampleRate v => { c with sampleRate := v }
  | .sampleCount v => { c with sampleCount := v }
  | .ctxFreq v => { c with ctxFreq := v }
  | .dqCap v => { c with dqCap := v }
  | .bitRes v => { c with bitRes := v }
  | .dataFmt v => { c with dataFmt := v }
  | .dataSid v => { c with dataSid := v }
  | .dataOui v => { c with dataOui := v }
  | .dataClass v => { c with dataClass := v }
  | .dataTrailer v => { c with dataTrailer := v }
  | .ctxFmt v => { c with ctxFmt := v }
  | .ctxOui v => { c with ctxOui := v }
  | .ctxClass v => { c with ctxClass := v }
  | .ctxTrailer v => { c with ctxTrailer := v }
  | .ctxSid v => { c with ctxSid := v }
  | .ctxOff v => { c with ctxOff := v }
  | .ctxTemplate k v => { c with ctxTemplate := c.ctxTemplate.set k v }

/-- `B`, the block size in pairs (R14). -/
def Cfg.blockSize (c : Cfg) : Nat := c.sampleCount.toNat

/-- `R`, the sample rate (R14). -/
def Cfg.rate (c : Cfg) : Nat := c.sampleRate.toNat

/-- `CFG_CTX_FREQ` as a signed number (R14, R208). -/
def Cfg.ctxFreqInt (c : Cfg) : Int := c.ctxFreq.toInt

/-- `ACC_CAP = CFG_SAMPLE_COUNT - 1 + MAX_CHUNK`, the accumulator's capacity in pairs (R5, R21). -/
def State.accCap (s : State) : Nat := s.cfg.blockSize - 1 + s.params.maxChunk

/-! ## Framing descriptors (R15, R17) -/

/-- `PT`, bits 3:0 of `CFG_DATA_FMT` or `CFG_CTX_FMT`. -/
def fmtPt (f : Word) : BitVec 4 := f.extractLsb' 0 4

/-- `TSI`, bits 5:4. -/
def fmtTsi (f : Word) : BitVec 2 := f.extractLsb' 4 2

/-- `TSF`, bits 7:6. -/
def fmtTsf (f : Word) : BitVec 2 := f.extractLsb' 6 2

/-- `TRAILER_EN`, bit 8. -/
def fmtTrailerEn (f : Word) : Bool := f.getLsbD 8

/-- `CID_EN`, bit 9. -/
def fmtCidEn (f : Word) : Bool := f.getLsbD 9

/-- `TSM_EN`, bit 10 of `CFG_CTX_FMT` (R17). -/
def fmtTsmEn (f : Word) : Bool := f.getLsbD 10

/-- `TSM`, bit 11 of `CFG_CTX_FMT` (R17). -/
def fmtTsm (f : Word) : Bool := f.getLsbD 11

/-- `SEQ_FIXED`, bit 12 of `CFG_CTX_FMT` (R17). -/
def fmtSeqFixed (f : Word) : Bool := f.getLsbD 12

/-- The `oui` of `CFG_DATA_OUI` or `CFG_CTX_OUI`: bits 23:0 (R16, R18). -/
def ouiField (w : Word) : BitVec 24 := w.extractLsb' 0 24

/-- `info_class`, bits 31:16 of `CFG_DATA_CLASS` or `CFG_CTX_CLASS` (R16, R18). -/
def infoClassField (w : Word) : BitVec 16 := w.extractLsb' 16 16

/-- `packet_class`, bits 15:0 of `CFG_DATA_CLASS` or `CFG_CTX_CLASS` (R16, R18). -/
def packetClassField (w : Word) : BitVec 16 := w.extractLsb' 0 16

/-- The logical trailer in `CFG_DATA_TRAILER` or `CFG_CTX_TRAILER`, whose layout does not depend on
`LAYOUT` (R16, R18). -/
def trailerField (w : Word) : Trailer where
  enables := w.extractLsb' 20 12
  indicators := w.extractLsb' 8 12
  contextCount := if w.getLsbD 7 then some (w.extractLsb' 0 7) else none

/-! ## The context template (R18, R19) -/

/-- `OFF_BW`, bits 5:0 of `CFG_CTX_OFF`. -/
def offBw (w : Word) : Nat := (w.extractLsb' 0 6).toNat

/-- `OFF_FREQ`, bits 13:8. -/
def offFreq (w : Word) : Nat := (w.extractLsb' 8 6).toNat

/-- `OFF_SR`, bits 21:16. -/
def offSr (w : Word) : Nat := (w.extractLsb' 16 6).toNat

/-- The 48 bytes of `CFG_CTX_TEMPLATE`: each word big-endian, words in order (R19). -/
def Cfg.templateBytes (c : Cfg) : Bytes := c.ctxTemplate.toList.flatMap fun w => be 4 w.toNat

/-! ## Limiters (R26, R159) -/

/-- The limiter's `last` register. -/
def State.limiterLast (s : State) : Limiter → Option Nat
  | .out => s.rlOutLast
  | .ctx => s.rlCtxLast

/-- The interval's numerator. -/
def State.limiterNum (s : State) : Limiter → Nat
  | .out => s.cfg.blockSize
  | .ctx => 1

/-- The interval's denominator, signed because `CFG_CTX_FREQ` is (log 17). -/
def State.limiterDen (s : State) : Limiter → Int
  | .out => s.cfg.rate
  | .ctx => s.cfg.ctxFreqInt

/-- `L.last <- v`. -/
def State.setLimiterLast (s : State) (l : Limiter) (v : Option Nat) : State :=
  match l with
  | .out => { s with rlOutLast := v }
  | .ctx => { s with rlCtxLast := v }

end Sys2Proof.Machine
end

