-- ==== Sys2Proof/Machine/Flags.lean ====
section
/-! DEFINITION. The status registers: their views as words (R30, R31), the error codes' numbers
(R231), and every write of a flag, counter or error record (R30 to R32, R195, R235 to R241). -/

namespace Sys2Proof.Machine

/-- `P_STATE`'s number (R29). -/
def PState.code : PState → BitVec 2
  | .off => 0
  | .run => 1
  | .dead => 2

/-- `O_STATE`'s number (R29). -/
def OState.code : OState → BitVec 2
  | .off => 0
  | .wait => 1
  | .holding => 2
  | .dead => 3

/-- `C_STATE`'s number (R29). -/
def CState.code : CState → BitVec 2
  | .off => 0
  | .run => 1
  | .done => 2
  | .dead => 3

/-- `STATUS` (SR0), bit 31 first; bits 31:14 read as 0 (R30). -/
def State.statusWord (s : State) : Word :=
  (0 : BitVec 18) ++ BitVec.ofBool s.encFail ++ BitVec.ofBool s.decFail ++ BitVec.ofBool s.dropOq
    ++ BitVec.ofBool s.dropDq ++ s.cState.code ++ s.oState.code ++ s.pState.code
    ++ BitVec.ofBool s.degraded ++ BitVec.ofBool s.stopReq ++ BitVec.ofBool s.cfgErr
    ++ BitVec.ofBool s.running

/-- `ERR` (SR1): bits 15:8 the operation, bits 7:0 the code, the rest 0 (R31). -/
def State.errWord (s : State) : Word := (0 : BitVec 16) ++ s.errOp ++ s.errCode

/-- The number of an error code (R231). -/
def ErrCode.code : ErrCode → BitVec 8
  | .cfgBitRes => 1
  | .cfgSampleRate => 2
  | .cfgBlockSize => 3
  | .cfgQueueCap => 4
  | .classId => 5
  | .tsMissing => 6
  | .fieldRange => 7
  | .payloadAlign => 8
  | .sizeOverflow => 9
  | .tsRange => 10
  | .bfDesc => 11
  | .cfgInputFormat => 12
  | .cfgCtxTemplate => 13
  | .sidMissing => 14
  | .cfgReserved => 15
  | .decShort => 32
  | .decUnaligned => 33
  | .decSizeMismatch => 34
  | .decTruncated => 35
  | .dropDq => 48
  | .dropOq => 49
  | .stageFault => 64

/-- The OPIDs that `ERR.ERR_OP` can hold (R77, R231). -/
def opPktDec : BitVec 8 := 0x26
def opFrameData : BitVec 8 := 0x61
def opFrameCtx : BitVec 8 := 0x63
def opStart : BitVec 8 := 0x80
def opStageFault : BitVec 8 := 0x8B

/-- `min(c + 1, 2^32 - 1)` (R32). -/
def satInc (c : BitVec 32) : BitVec 32 := BitVec.ofNat 32 (min (c.toNat + 1) (2 ^ 32 - 1))

/-- Taking an error of class 1, 2 or 4 in a run: the first one since reset or START is recorded, with
the operation that raised it; later ones change nothing here (R31, R243). This is all the entry VRTB
has: no control is transferred and nothing is saved (R230, R244), and there is no return (R245). -/
def State.recordError (s : State) (e : ErrCode) (op : BitVec 8) : State :=
  if s.errCode = 0 then { s with errCode := e.code, errOp := op } else s

/-- A class 1 error during a run: `ENC_FAIL`, and the record (R236). -/
def State.encodeFailed (s : State) (e : ErrCode) (op : BitVec 8) : State :=
  State.recordError { s with encFail := true } e op

/-- A class 2 error in HOST.DEC: `DEC_FAIL`, its counter, and the record (R214, R239). -/
def State.decodeFailed (s : State) (e : ErrCode) : State :=
  State.recordError { s with decFail := true, decFailCnt := satInc s.decFailCnt } e opPktDec

/-- A class 3 drop at `DQ`: the sticky flag and the counter, never `ERR` (R195, R238). -/
def State.countDropDq (s : State) : State :=
  { s with dropDq := true, dropDqCnt := satInc s.dropDqCnt }

/-- A class 3 drop at `OQ` (R195, R238). -/
def State.countDropOq (s : State) : State :=
  { s with dropOq := true, dropOqCnt := satInc s.dropOqCnt }

/-- A stage is in a running state (R199, R213). -/
def State.stageRunning (s : State) : Stage → Bool
  | .p => s.pState == .run
  | .o => s.oState == .wait || s.oState == .holding
  | .c => s.cState == .run

/-- A class 4 error: the stage is dead, `DEGRADED` is set, and the fault is recorded (R213, R241). -/
def State.killStage (s : State) (g : Stage) : State :=
  let s' := match g with
    | .p => { s with pState := .dead }
    | .o => { s with oState := .dead, oHold := none }
    | .c => { s with cState := .dead }
  State.recordError { s' with degraded := true } .stageFault opStageFault

/-- No stage is in a running state: each is off, done or dead (R199). -/
def State.allStagesOut (s : State) : Bool :=
  !(s.stageRunning .p || s.stageRunning .o || s.stageRunning .c)

/-- After any step: with `STOP_REQ` set and every stage out, `RUNNING` falls (R199; log 19). -/
def State.completeStop (s : State) : State :=
  if s.stopReq && s.allStagesOut then { s with running := false } else s

/-- The value REG.READ returns (R20, R30 to R32). -/
def State.readReg (s : State) : RegId → Result
  | .cfg r => s.cfg.read r
  | .status => .word s.statusWord
  | .err => .word s.errWord
  | .dropDqCnt => .word s.dropDqCnt
  | .dropOqCnt => .word s.dropOqCnt
  | .decFailCnt => .word s.decFailCnt
  | .mtrRate => .dword s.mtr.rate
  | .mtrReports => .word s.mtr.reports

end Sys2Proof.Machine
end

