-- ==== Sys2Proof/Machine/Ops.lean ====
section
/-! DEFINITION. The operations that the meanings share: how a meaning ends, the queue primitives
(R195, R196), the limiter (R160, R161), the accumulator (R151, R152) and the fetch of the next
operation (log 1). Taking an error is `State.recordError` of Flags.lean. -/

namespace Sys2Proof.Machine

/-- How an operation answers. -/
abbrev Answer := Host.Outcome State Fault Refusal

/-- The operation is complete: it leaves `s` and returns `r` (log 8). -/
def finish (s : State) (r : Result) : Answer := .next { s with out := r }

/-- The operation's guard is false: it has no step, the agent waits, and nothing moves (U31; log 4). -/
def hold (s : State) : Answer := finish s .held

/-- An operation that may have no step: `none` waits. -/
def finishOrHold (s : State) : Option (State × Result) → Answer
  | none => hold s
  | some (t, r) => finish t r

/-- A value or an error code as a result (R230). -/
def resultOf {α : Type} (mk : α → Result) : Except ErrCode α → Result
  | .error e => .error e
  | .ok a => mk a

/-- The draw of a free value: the counter moves on (log 9). -/
def State.draw (s : State) : State := { s with drawn := s.drawn + 1 }

/-! ## Queues -/

/-- Q.TRYPUSH: append the whole item, or drop it and count the drop; it never waits (R195). On a full
`IQ` nothing is counted. -/
def State.tryPush (s : State) : QueueItem → State × Result
  | .dq b => if s.dq.length < s.cfg.dqCap.toNat then ({ s with dq := s.dq ++ [b] }, .ok) else (s.countDropDq, .full)
  | .oq b => if s.oq.length < s.params.oqCap then ({ s with oq := s.oq ++ [b] }, .ok) else (s.countDropOq, .full)
  | .iq c => if s.iq.length < s.params.iqCap then ({ s with iq := s.iq ++ [c] }, .ok) else (s, .full)

/-- Q.POP: the oldest item, or no step on an empty queue (R196). -/
def State.pop (s : State) : QueueId → Option (State × Result)
  | .dq => match s.dq with
    | [] => none
    | b :: rest => some ({ s with dq := rest }, .bytes b)
  | .oq => match s.oq with
    | [] => none
    | b :: rest => some ({ s with oq := rest }, .bytes b)
  | .iq => match s.iq with
    | [] => none
    | c :: rest => some ({ s with iq := rest }, .pairs c)

/-- A chunk is inside the envelope the environment is held to (U12, R252). -/
def State.chunkFits (s : State) (c : Chunk) : Bool := decide (c.length ≤ s.params.maxChunk)

/-- A queue item is inside that envelope. Packets are not limited, though PKT.ENC's have at most 262140 bytes
(R40): the model's choice (DESIGN CHOICE, log 28). -/
def State.itemFits (s : State) : QueueItem → Bool
  | .iq c => s.chunkFits c
  | .dq _ => true
  | .oq _ => true

/-! ## Accumulator -/

/-- ACC.PUSH: `ACC <- ACC ++ c` (R151). -/
def State.accAppend (s : State) (c : Chunk) : State := { s with acc := s.acc ++ c }

/-- ACC.EMIT: the oldest `B` pairs, or no step when there are fewer (R152). -/
def State.accTake (s : State) : Option (State × Chunk) :=
  if s.cfg.blockSize ≤ s.acc.length then
    some ({ s with acc := s.acc.drop s.cfg.blockSize }, s.acc.take s.cfg.blockSize)
  else none

/-! ## Rate limiter -/

/-- RL.DUE: no previous call, or `(NOW - t) * den >= num * TICK_HZ` in exact integers (R160; log 6). -/
def State.due (s : State) (l : Limiter) : Bool :=
  match s.limiterLast l with
  | none => true
  | some t => decide (((s.now : Int) - t) * s.limiterDen l ≥ (s.limiterNum l : Int) * s.params.tickHz)

/-- RL.MARK: `L.last <- Some NOW` (R161). -/
def State.mark (s : State) (l : Limiter) : State := s.setLimiterLast l (some s.now)

/-! ## The next operation -/

/-- The operation presented next: the agenda's first, or, when nothing stands there, one of the
environment's free choice (R209, U9; log 1). -/
def State.fetch (s : State) : Transfer × State :=
  match s.agenda with
  | t :: rest => (t, { s with agenda := rest })
  | [] => (Config.schedule s.drawn, s.draw)

/-- A transfer placed first in the agenda (log 1). -/
def State.present (s : State) (t : Transfer) : State := { s with agenda := t :: s.agenda }

end Sys2Proof.Machine
end

