-- ==== Sys2Proof/Machine/Accumulator.lean ====
section
/-! DEFINITION. The sample block accumulator: ACC.PUSH, ACC.EMIT (spec/43_block_accumulator.md). -/

namespace Sys2Proof.Machine

/-- No full block is pending: the condition under which ACC.PUSH is performed, so that `ACC` stays within
`ACC_CAP` (R151, R153, R154). -/
def State.accRoom (s : State) : Bool := decide (s.acc.length < s.cfg.blockSize)

/-- ACC.PUSH (R151): no step while a full block is pending. A chunk longer than `MAX_CHUNK` is outside its
operands (U12; log 14). -/
def execAccPush (c : Chunk) (s : State) : Answer :=
  if s.chunkFits c then
    if s.accRoom then finish (s.accAppend c) .done else hold s
  else .refused .chunkTooLong

/-- ACC.EMIT (R152): returns the block, or has no step below a full block. -/
def execAccEmit (s : State) : Answer :=
  finishOrHold s (s.accTake.map fun a => (a.1, .pairs a.2))

end Sys2Proof.Machine
end

