-- ==== Sys2Proof/Machine/BitField.lean ====
section
/-! DEFINITION. The BitField codec and the Header and Trailer words: BF.DEC, BF.ENC, HDR.ENC, HDR.DEC,
TRL.ENC, TRL.DEC (spec/40_bitfield_header_trailer.md). Pure operations: they write no register. -/

namespace Sys2Proof.Machine

/-! ## The generic codec (R90 to R92) -/

/-- A descriptor list is a layout: every width at least 1, widths summing to 32 (R90). -/
def layoutOk (d : List Descriptor) : Bool :=
  d.all (fun x => decide (1 ≤ x.width)) && decide ((d.map Descriptor.width).sum = 32)

/-- The value a record holds under a name. -/
def recordGet (v : Record) (n : FieldName) : Option Nat :=
  match v with
  | [] => none
  | e :: rest => if e.1 = n then some e.2 else recordGet rest n

/-- `out[n] <- x`: replaced in place, or added at the end (R91; log 23). -/
def recordSet (v : Record) (n : FieldName) (x : Nat) : Record :=
  match v with
  | [] => [(n, x)]
  | e :: rest => if e.1 = n then (n, x) :: rest else e :: recordSet rest n x

/-- The named fields of `w`, where the descriptors left to read end below bit `hi`: each lies at
`hi - width`, masked to its width (R90, R91). -/
def bfExtract : List Descriptor → Nat → Nat → Record → Record
  | [], _, _, out => out
  | x :: rest, hi, w, out =>
    let pos := hi - x.width
    match x.name with
    | none => bfExtract rest pos w out
    | some n => bfExtract rest pos w (recordSet out n ((w >>> pos) &&& (2 ^ x.width - 1)))

/-- The word of a record's values; reserved descriptors contribute zero bits (R92). -/
def bfInsert : List Descriptor → Nat → Record → Nat → Nat
  | [], _, _, w => w
  | x :: rest, hi, v, w =>
    let pos := hi - x.width
    match x.name with
    | none => bfInsert rest pos v w
    | some n => bfInsert rest pos v (w ||| ((recordGet v n).getD 0 <<< pos))

/-- Every named descriptor's value is below `2^width` (R92). -/
def valuesFit (d : List Descriptor) (v : Record) : Bool :=
  d.all fun x => match x.name with
    | none => true
    | some n => decide ((recordGet v n).getD 0 < 2 ^ x.width)

/-- BF.DEC(d, w) (R91); a list that is no layout is `E_BF_DESC` (R90). -/
def bfDec (d : List Descriptor) (w : Word) : Except ErrCode Record :=
  if layoutOk d then .ok (bfExtract d 32 w.toNat []) else .error .bfDesc

/-- BF.ENC(d, v) (R92): `E_BF_DESC` for a list that is no layout, then `E_FIELD_RANGE` for a value
wider than its field, never masked (D4). -/
def bfEnc (d : List Descriptor) (v : Record) : Except ErrCode Word :=
  if layoutOk d then
    if valuesFit d v then .ok (BitVec.ofNat 32 (bfInsert d 32 v 0)) else .error .fieldRange
  else .error .bfDesc

/-- The record has a value for every named descriptor (R92). -/
def recordCovers (d : List Descriptor) (v : Record) : Bool :=
  d.all fun x => match x.name with
    | none => true
    | some n => (recordGet v n).isSome

/-- `a` cut down until it fits every field of `d` named `n`. -/
def fitNamed (d : List Descriptor) (n : FieldName) (a : Nat) : Nat :=
  d.foldl (fun a x => if x.name = some n then a % 2 ^ x.width else a) a

/-- The record with, after its own values, a free value of its field for each name; a name that the record
holds keeps its own value, which is found first (log 23). -/
def completeRecord (d : List Descriptor) (v : Record) (drawn : Nat) : Record :=
  v ++ d.filterMap fun x => x.name.map fun n => (n, fitNamed d n (Config.missingFieldValue drawn n))

/-! ## Header and Trailer layouts (R60 to R62, R76) -/

def nmPacketType : FieldName := 0
def nmHasClassId : FieldName := 1
def nmHasTrailer : FieldName := 2
def nmTsm : FieldName := 3
def nmTsi : FieldName := 4
def nmTsf : FieldName := 5
def nmCount : FieldName := 6
def nmSize : FieldName := 7
def nmEnables : FieldName := 8
def nmIndicators : FieldName := 9
def nmContextEn : FieldName := 10
def nmContextCount : FieldName := 11

/-- The Header's descriptor list, most significant first (R60, R61). -/
def headerLayout : Layout → List Descriptor
  | .vita =>
    [⟨some nmPacketType, 4⟩, ⟨some nmHasClassId, 1⟩, ⟨some nmHasTrailer, 1⟩, ⟨none, 1⟩,
      ⟨some nmTsm, 1⟩, ⟨some nmTsi, 2⟩, ⟨some nmTsf, 2⟩, ⟨some nmCount, 4⟩, ⟨some nmSize, 16⟩]
  | .listed =>
    [⟨some nmSize, 16⟩, ⟨some nmCount, 4⟩, ⟨some nmTsf, 2⟩, ⟨some nmTsi, 2⟩, ⟨some nmTsm, 1⟩,
      ⟨none, 1⟩, ⟨some nmHasTrailer, 1⟩, ⟨some nmHasClassId, 1⟩, ⟨some nmPacketType, 4⟩]

/-- The Trailer's descriptor list, most significant first (R62). -/
def trailerLayout : Layout → List Descriptor
  | .vita =>
    [⟨some nmEnables, 12⟩, ⟨some nmIndicators, 12⟩, ⟨some nmContextEn, 1⟩, ⟨some nmContextCount, 7⟩]
  | .listed =>
    [⟨some nmContextCount, 7⟩, ⟨some nmContextEn, 1⟩, ⟨some nmIndicators, 12⟩, ⟨some nmEnables, 12⟩]

def headerRecord (h : Header) : Record :=
  [(nmPacketType, h.packetType.toNat), (nmHasClassId, h.hasClassId.toNat),
    (nmHasTrailer, h.hasTrailer.toNat), (nmTsm, h.tsm.toNat), (nmTsi, h.tsi.toNat),
    (nmTsf, h.tsf.toNat), (nmCount, h.count.toNat), (nmSize, h.size.toNat)]

/-- A record's value under a name as a field of `w` bits. -/
def fieldOf (w : Nat) (v : Record) (n : FieldName) : BitVec w := BitVec.ofNat w ((recordGet v n).getD 0)

/-- A record's value under a name as a flag. -/
def flagOf (v : Record) (n : FieldName) : Bool := fieldOf 1 v n == 1

def headerOfRecord (v : Record) : Header where
  packetType := fieldOf 4 v nmPacketType
  hasClassId := flagOf v nmHasClassId
  hasTrailer := flagOf v nmHasTrailer
  tsm := flagOf v nmTsm
  tsi := fieldOf 2 v nmTsi
  tsf := fieldOf 2 v nmTsf
  count := fieldOf 4 v nmCount
  size := fieldOf 16 v nmSize

/-- HDR.ENC(f) = BF.ENC(header_layout(LAYOUT), f) (R93). Field widths are types, so it cannot fail. -/
def hdrEnc (l : Layout) (h : Header) : Word :=
  BitVec.ofNat 32 (bfInsert (headerLayout l) 32 (headerRecord h) 0)

/-- HDR.DEC(w) = BF.DEC(header_layout(LAYOUT), w) (R94). -/
def hdrDec (l : Layout) (w : Word) : Header :=
  headerOfRecord (bfExtract (headerLayout l) 32 w.toNat [])

/-- `context_en` is 1 exactly when the count is present; an absent count is seven 0 bits (R73, R95). -/
def trailerRecord (t : Trailer) : Record :=
  [(nmEnables, t.enables.toNat), (nmIndicators, t.indicators.toNat),
    (nmContextEn, t.contextCount.isSome.toNat),
    (nmContextCount, match t.contextCount with | none => 0 | some c => c.toNat)]

/-- TRL.ENC(t) (R95). -/
def trlEnc (l : Layout) (t : Trailer) : Word :=
  BitVec.ofNat 32 (bfInsert (trailerLayout l) 32 (trailerRecord t) 0)

/-- A Trailer from its four wire fields: no count when `context_en` is 0 (R96). -/
def trailerOfFields (enables indicators : BitVec 12) (contextEn : Bool) (count : BitVec 7) : Trailer where
  enables := enables
  indicators := indicators
  contextCount := if contextEn then some count else none

/-- TRL.DEC(w) (R96). -/
def trlDec (l : Layout) (w : Word) : Trailer :=
  let v := bfExtract (trailerLayout l) 32 w.toNat []
  trailerOfFields (fieldOf 12 v nmEnables) (fieldOf 12 v nmIndicators) (flagOf v nmContextEn)
    (fieldOf 7 v nmContextCount)

/-! ## Meanings -/

/-- BF.DEC (R91). -/
def execBfDec (d : List Descriptor) (w : Word) (s : State) : Answer :=
  finish s (resultOf .record (bfDec d w))

/-- BF.ENC (R90, R92): the list is tested first, so one that is no layout is `E_BF_DESC` whatever the record
holds; a named value that the record lacks is a free value of its field, and the rest is placed as ever
(DESIGN CHOICE, log 23). -/
def execBfEnc (d : List Descriptor) (v : Record) (s : State) : Answer :=
  if recordCovers d v then finish s (resultOf .word (bfEnc d v))
  else finish s.draw (resultOf .word (bfEnc d (completeRecord d v s.drawn)))

/-- HDR.ENC (R93). -/
def execHdrEnc (h : Header) (s : State) : Answer := finish s (.word (hdrEnc s.params.layout h))

/-- HDR.DEC (R94). -/
def execHdrDec (w : Word) (s : State) : Answer := finish s (.header (hdrDec s.params.layout w))

/-- TRL.ENC (R95). -/
def execTrlEnc (t : Trailer) (s : State) : Answer := finish s (.word (trlEnc s.params.layout t))

/-- TRL.DEC (R96). -/
def execTrlDec (w : Word) (s : State) : Answer := finish s (.trailer (trlDec s.params.layout w))

end Sys2Proof.Machine
end

