-- ==== Sys2Proof/Machine/Environment.lean ====
section
/-! DEFINITION. The environment's steps: TICK, SRC.PUSH, SNK.POP, STAGE.FAULT
(spec/46_queues_pipeline.md rules R210 to R213). -/

namespace Sys2Proof.Machine

/-- TICK(n): `NOW <- NOW + n` (R210). -/
def execTick (n : Nat) (s : State) : Answer := finish { s with now := s.now + n } .done

/-- SRC's push into `IQ`: on a full queue the policy decides between losing the chunk, which VRTB does
not record, and having no step (R211). -/
def State.sourcePush (s : State) (c : Chunk) : Option (State × Result) :=
  if s.iq.length < s.params.iqCap then some ({ s with iq := s.iq ++ [c] }, .ok)
  else match s.params.inPushPolicy with
    | .drop => some (s, .full)
    | .block => none

/-- SRC.PUSH (R211): enabled while `RUNNING`; a chunk longer than `MAX_CHUNK` is refused (U12; log 14). -/
def execSrcPush (c : Chunk) (s : State) : Answer :=
  if s.chunkFits c then
    if s.running then finishOrHold s (s.sourcePush c) else hold s
  else .refused .chunkTooLong

/-- SNK.POP: the oldest item of `OQ` leaves VRTB (R212). -/
def execSnkPop (s : State) : Answer := finishOrHold s (s.pop .oq)

/-- STAGE.FAULT(s) on a stage in a running state (R213). -/
def execStageFault (g : Stage) (s : State) : Answer :=
  if s.stageRunning g then finish (s.killStage g) .done else hold s

end Sys2Proof.Machine
end

