-- ==== Sys2Proof/Machine/PacketCodec.lean ====
section
/-! DEFINITION. The packet codec: CID.ENC, CID.DEC, TS.ENC, TS.DEC, PKT.SIZE, PKT.ENC, PKT.DEC
(spec/41_packet_codec.md). Pure operations: they write no register. -/

namespace Sys2Proof.Machine

/-! ## Field operations -/

/-- CID.ENC (R110): the padding byte is 0. -/
def cidEnc (c : ClassId) : Bytes :=
  be 4 c.oui.toNat ++ be 4 ((c.infoClass.toNat <<< 16) ||| c.packetClass.toNat)

/-- CID.DEC of 8 bytes (R111): the padding byte is ignored. -/
def cidDec (b : Bytes) : ClassId where
  oui := BitVec.ofNat 24 (ube (slice b 0 4) &&& 0xFFFFFF)
  infoClass := BitVec.ofNat 16 (ube (slice b 4 2))
  packetClass := BitVec.ofNat 16 (ube (slice b 6 2))

/-- TS.ENC (R112): the seconds word unless `TSI_NONE`, then the picoseconds unless `TSF_NONE`. -/
def tsEnc (ts : Nat) (tsi tsf : BitVec 2) : Except ErrCode Bytes :=
  if tsi ≠ Config.tsiNone ∧ ts / picos ≥ 2 ^ 32 then .error .tsRange
  else .ok ((if tsi ≠ Config.tsiNone then be 4 (ts / picos) else [])
    ++ (if tsf ≠ Config.tsfNone then be 8 (ts % picos) else []))

/-- TS.DEC (R113): `None` when both parts are missing, a missing part counting 0. -/
def tsDec (sec : Option Word) (frac : Option (BitVec 64)) : Option Nat :=
  match sec, frac with
  | none, none => none
  | some x, none => some (x.toNat * picos)
  | none, some f => some f.toNat
  | some x, some f => some (x.toNat * picos + f.toNat)

/-! ## Packets -/

/-- The class identifier, when all three parts are there (R73). -/
def Packet.classId? (p : Packet) : Option ClassId :=
  match p.oui, p.infoClass, p.packetClass with
  | some o, some i, some c => some ⟨o, i, c⟩
  | _, _, _ => none

/-- None of the three parts is there. -/
def Packet.noClassId (p : Packet) : Bool :=
  p.oui.isNone && p.infoClass.isNone && p.packetClass.isNone

/-- The Header words a Packet of this type, class identifier and timestamp kinds takes, and a trailer
word if it has one (R67, R118). -/
def prefixWords (pt : BitVec 4) (hasCid : Bool) (tsi tsf : BitVec 2) : Nat :=
  1 + (if pt = Config.ptDataWithId then 1 else 0) + (if hasCid then 2 else 0)
    + (if tsi ≠ Config.tsiNone then 1 else 0) + (if tsf ≠ Config.tsfNone then 2 else 0)

/-- PKT.SIZE in words, for a payload of whole words (R118). -/
def pktSize (p : Packet) : Nat :=
  prefixWords p.packetType (Packet.classId? p).isSome p.tsi p.tsf + p.data.length / 4
    + (if p.trailer.isSome then 1 else 0)

/-- The Header of a Packet of `n` words (R73, R119). -/
def Packet.toHeader (p : Packet) (n : Nat) : Header where
  packetType := p.packetType
  hasClassId := (Packet.classId? p).isSome
  hasTrailer := p.trailer.isSome
  tsm := p.tsm.getD false
  tsi := p.tsi
  tsf := p.tsf
  count := p.count
  size := BitVec.ofNat 16 n

/-- The first of PKT.ENC's errors that applies, in the order of R119. -/
def pktEncError (p : Packet) : Option ErrCode :=
  if (Packet.classId? p).isNone && !Packet.noClassId p then some .classId
  else if p.packetType = Config.ptDataWithId ∧ p.streamId = none then some .sidMissing
  else if (p.tsi ≠ Config.tsiNone ∨ p.tsf ≠ Config.tsfNone) ∧ p.timestamp = none then some .tsMissing
  else if p.tsi ≠ Config.tsiNone ∧ p.timestamp.getD 0 / picos ≥ 2 ^ 32 then some .tsRange
  else if p.data.length % 4 ≠ 0 then some .payloadAlign
  else if pktSize p > 65535 then some .sizeOverflow
  else none

/-- The stream-id word: by the type alone (R64, R119). -/
def streamIdBytes (p : Packet) : Bytes :=
  if p.packetType = Config.ptDataWithId then
    match p.streamId with
    | none => []
    | some sid => be 4 sid.toNat
  else []

/-- The class-identifier words. -/
def classIdBytes (p : Packet) : Bytes :=
  match Packet.classId? p with
  | none => []
  | some c => cidEnc c

/-- The timestamp's bytes; TS.ENC may refuse (R112). -/
def timestampBytes (p : Packet) : Except ErrCode Bytes :=
  match p.timestamp with
  | none => .ok []
  | some t => tsEnc t p.tsi p.tsf

/-- The trailer word. -/
def trailerBytes (l : Layout) (p : Packet) : Bytes :=
  match p.trailer with
  | none => []
  | some t => be 4 (trlEnc l t).toNat

/-- PKT.ENC(p) (R119): on an error nothing is emitted. -/
def pktEnc (l : Layout) (p : Packet) : Except ErrCode Bytes :=
  match pktEncError p with
  | some e => .error e
  | none =>
    match timestampBytes p with
    | .error e => .error e
    | .ok ts =>
      .ok (be 4 (hdrEnc l (Packet.toHeader p (pktSize p))).toNat ++ streamIdBytes p ++ classIdBytes p
        ++ ts ++ p.data ++ trailerBytes l p)

/-- The first of PKT.DEC's failures that applies, in the order of R120. -/
def pktDecError (l : Layout) (b : Bytes) : Option ErrCode :=
  let h := hdrDec l (BitVec.ofNat 32 (ube (slice b 0 4)))
  if b.length < 4 then some .decShort
  else if b.length % 4 ≠ 0 then some .decUnaligned
  else if 4 * h.size.toNat ≠ b.length then some .decSizeMismatch
  else if h.size.toNat < prefixWords h.packetType h.hasClassId h.tsi h.tsf + h.hasTrailer.toNat then
    some .decTruncated
  else none

/-- The Packet in bytes that PKT.DEC accepts: the fields one after the other, driven by the Header's
presence flags (R68, R120). -/
def pktFields (l : Layout) (b : Bytes) : Packet :=
  let h := hdrDec l (BitVec.ofNat 32 (ube (slice b 0 4)))
  let oCid := 4 + (if h.packetType = Config.ptDataWithId then 4 else 0)
  let oSec := oCid + (if h.hasClassId then 8 else 0)
  let oFrac := oSec + (if h.tsi ≠ Config.tsiNone then 4 else 0)
  let oData := oFrac + (if h.tsf ≠ Config.tsfNone then 8 else 0)
  let stop := b.length - 4 * h.hasTrailer.toNat
  let cid := cidDec (slice b oCid 8)
  { packetType := h.packetType
    tsi := h.tsi
    tsf := h.tsf
    tsm := if h.packetType ∈ Config.contextTypes then some h.tsm else none
    count := h.count
    streamId := if h.packetType = Config.ptDataWithId then some (BitVec.ofNat 32 (ube (slice b 4 4))) else none
    timestamp := tsDec
      (if h.tsi ≠ Config.tsiNone then some (BitVec.ofNat 32 (ube (slice b oSec 4))) else none)
      (if h.tsf ≠ Config.tsfNone then some (BitVec.ofNat 64 (ube (slice b oFrac 8))) else none)
    oui := if h.hasClassId then some cid.oui else none
    infoClass := if h.hasClassId then some cid.infoClass else none
    packetClass := if h.hasClassId then some cid.packetClass else none
    data := slice b oData (stop - oData)
    trailer := if h.hasTrailer then some (trlDec l (BitVec.ofNat 32 (ube (slice b stop 4)))) else none }

/-- PKT.DEC(b) (R120, R121). -/
def pktDec (l : Layout) (b : Bytes) : Except ErrCode Packet :=
  match pktDecError l b with
  | some e => .error e
  | none => .ok (pktFields l b)

/-! ## Meanings -/

/-- CID.ENC (R110). -/
def execCidEnc (c : ClassId) (s : State) : Answer := finish s (.bytes (cidEnc c))

/-- CID.DEC (R111). -/
def execCidDec (b : Bytes) (s : State) : Answer := finish s (.classId (cidDec b))

/-- TS.ENC (R112). -/
def execTsEnc (ts : Nat) (tsi tsf : BitVec 2) (s : State) : Answer :=
  finish s (resultOf .bytes (tsEnc ts tsi tsf))

/-- TS.DEC (R113). -/
def execTsDec (sec : Option Word) (frac : Option (BitVec 64)) (s : State) : Answer :=
  finish s (.timestamp (tsDec sec frac))

/-- PKT.SIZE (R118). The spec gives no size to a payload that is not whole words: that result is a
free value (R43; log 10). -/
def execPktSize (p : Packet) (s : State) : Answer :=
  if p.data.length % 4 = 0 then finish s (.nat (pktSize p))
  else finish s.draw (.nat (Config.raggedSize s.drawn))

/-- PKT.ENC as a function (R119, R237). -/
def execPktEnc (p : Packet) (s : State) : Answer :=
  finish s (resultOf .bytes (pktEnc s.params.layout p))

/-- PKT.DEC as a function: a failure is its result and changes nothing (R120, R239). -/
def execPktDec (b : Bytes) (s : State) : Answer :=
  finish s (resultOf .packet (pktDec s.params.layout b))

end Sys2Proof.Machine
end

