-- ==== Sys2Proof/Machine/SamplePacker.lean ====
section
/-! DEFINITION. The sample packer: PACK12, UNPACK12 (spec/42_sample_packer.md). Pure operations. -/

namespace Sys2Proof.Machine

/-- The triplet of a pair: 12 low bits of each component, `first` in the high half, big-endian in
three bytes (R69, R141). -/
def packPair (p : Pair) : Bytes :=
  be 3 (((p.first.toNat &&& 0xFFF) <<< 12) ||| (p.second.toNat &&& 0xFFF))

/-- PACK12(xs) (R141). -/
def pack12 (xs : Chunk) : Bytes := xs.flatMap packPair

/-- The first value of a group of three bytes. -/
def groupFirst (x y z : Byte) : BitVec 12 := BitVec.ofNat 12 ((ube [x, y, z] >>> 12) &&& 0xFFF)

/-- The second value of a group of three bytes. -/
def groupSecond (x y z : Byte) : BitVec 12 := BitVec.ofNat 12 (ube [x, y, z] &&& 0xFFF)

/-- UNPACK12(b): two values per whole group; a partial group, completed with zero bytes, gives the
first value only (R142). -/
def unpack12 : Bytes → List (BitVec 12)
  | [] => []
  | [x] => [groupFirst x 0 0]
  | [x, y] => [groupFirst x y 0]
  | x :: y :: z :: rest => groupFirst x y z :: groupSecond x y z :: unpack12 rest

/-- PACK12 (R141). -/
def execPack12 (xs : Chunk) (s : State) : Answer := finish s (.bytes (pack12 xs))

/-- UNPACK12 (R142). -/
def execUnpack12 (b : Bytes) (s : State) : Answer := finish s (.values (unpack12 b))

end Sys2Proof.Machine
end

