-- ==== Sys2Proof/Machine/Framer.lean ====
section
/-! DEFINITION. The packet framer: TS.BLOCK, FRAME.DATA, CTX.PAYLOAD, FRAME.CTX (spec/45_framer.md). -/

namespace Sys2Proof.Machine

/-- TS.BLOCK(k) = T0 + (k * B * PS) div R, exact (R176). The spec gives no value at R = 0, which START
excludes: there the time is a free value (log 11). -/
def State.blockTime (s : State) (k : Nat) : Nat :=
  if s.cfg.rate = 0 then Config.blockTimeAtRateZero s.t0.toNat s.cfg.blockSize k
  else s.t0.toNat + k * s.cfg.blockSize * picos / s.cfg.rate

/-- The Packet FRAME.DATA builds for a block (R180). -/
def State.dataPacket (s : State) (blk : Chunk) : Packet :=
  let f := s.cfg.dataFmt
  { packetType := fmtPt f
    tsi := fmtTsi f
    tsf := fmtTsf f
    tsm := none
    count := s.seq
    streamId := if fmtPt f = Config.ptDataWithId then some s.cfg.dataSid else none
    timestamp := some (s.blockTime s.blkIdx.toNat)
    oui := if fmtCidEn f then some (ouiField s.cfg.dataOui) else none
    infoClass := if fmtCidEn f then some (infoClassField s.cfg.dataClass) else none
    packetClass := if fmtCidEn f then some (packetClassField s.cfg.dataClass) else none
    data := pack12 blk
    trailer := if fmtTrailerEn f then some (trailerField s.cfg.dataTrailer) else none }

/-- FRAME.DATA(blk): the encoded packet or an error; `SEQ` and `BLK_IDX` advance either way (R180). -/
def State.frameData (s : State) (blk : Chunk) : State × Except ErrCode Bytes :=
  ({ s with seq := s.seq + 1, blkIdx := s.blkIdx + 1 }, pktEnc s.params.layout (s.dataPacket blk))

/-- `t[off .. off+4) <- be4(v)` (R182). Of a range that leaves the 48 bytes the spec says nothing: its
bytes are free values (log 12). -/
def substitute (t : Bytes) (off : Nat) (v : Word) (drawn : Nat) : Bytes :=
  t.zipIdx.map fun e =>
    if off ≤ e.2 ∧ e.2 < off + 4 then
      if off ≤ 44 then (be 4 v.toNat).getD (e.2 - off) 0 else Config.payloadOverrunByte drawn e.2
    else e.1

/-- CTX.PAYLOAD(): the template with the three fields put in, in the rule's order (R182). -/
def State.contextPayload (s : State) : Bytes :=
  let o := s.cfg.ctxOff
  let t := substitute s.cfg.templateBytes (offBw o) s.cfg.bandwidth s.drawn
  let t := substitute t (offFreq o) s.cfg.frequency s.drawn
  substitute t (offSr o) s.cfg.sampleRate s.drawn

/-- The Packet FRAME.CTX builds; `tod` is what its read of `TOD` returns (R183; log 7). -/
def State.contextPacket (s : State) (tod : BitVec 96) : Packet :=
  let f := s.cfg.ctxFmt
  { packetType := fmtPt f
    tsi := fmtTsi f
    tsf := fmtTsf f
    tsm := if fmtTsmEn f then some (fmtTsm f) else none
    count := if fmtSeqFixed f then 0 else s.ctxSeq
    streamId := if fmtPt f = Config.ptDataWithId then some s.cfg.ctxSid else none
    timestamp := some tod.toNat
    oui := if fmtCidEn f then some (ouiField s.cfg.ctxOui) else none
    infoClass := if fmtCidEn f then some (infoClassField s.cfg.ctxClass) else none
    packetClass := if fmtCidEn f then some (packetClassField s.cfg.ctxClass) else none
    data := s.contextPayload
    trailer := if fmtTrailerEn f then some (trailerField s.cfg.ctxTrailer) else none }

/-- FRAME.CTX(): the encoded packet or an error; `CTX_SEQ` advances either way unless `SEQ_FIXED`
(R183). The payload's draw of free bytes is counted (log 9). -/
def State.frameCtx (s : State) (tod : BitVec 96) : State × Except ErrCode Bytes :=
  ({ s.draw with ctxSeq := if fmtSeqFixed s.cfg.ctxFmt then s.ctxSeq else s.ctxSeq + 1 },
    pktEnc s.params.layout (s.contextPacket tod))

/-- TS.BLOCK (R176). -/
def execTsBlock (k : BitVec 64) (s : State) : Answer := finish s (.nat (s.blockTime k.toNat))

/-- FRAME.DATA on its own: its errors are its result and set no flag (R180, R237). -/
def execFrameData (blk : Chunk) (s : State) : Answer :=
  finish (s.frameData blk).1 (resultOf .bytes (s.frameData blk).2)

/-- CTX.PAYLOAD (R182). -/
def execCtxPayload (s : State) : Answer := finish s.draw (.bytes s.contextPayload)

/-- FRAME.CTX on its own (R183, R237). -/
def execFrameCtx (tod : BitVec 96) (s : State) : Answer :=
  finish (s.frameCtx tod).1 (resultOf .bytes (s.frameCtx tod).2)

end Sys2Proof.Machine
end

