-- ==== Sys2Proof/Machine/HostCommands.lean ====
section
/-! DEFINITION. The host's commands: START, STOP, HOST.DEC, RESET, CFG.WRITE, REG.READ
(spec/46_queues_pipeline.md rules R198, R199, R214; spec/70_reset_and_hazards.md rule R260;
spec/10_state.md rule R20). -/

namespace Sys2Proof.Machine

/-- The bits of `CFG_CTX_OFF` outside 5:0, 13:8 and 21:16 are 0 (R18). -/
def offReservedZero (w : Word) : Bool :=
  w.extractLsb' 6 2 == 0 && w.extractLsb' 14 2 == 0 && w.extractLsb' 22 10 == 0

/-- Check 5 of START: every reserved configuration bit is 0 (R15 to R18, R198). -/
def Cfg.reservedZero (c : Cfg) : Bool :=
  c.dataFmt.extractLsb' 10 22 == 0 && c.ctxFmt.extractLsb' 13 19 == 0
    && c.dataOui.extractLsb' 24 8 == 0 && c.ctxOui.extractLsb' 24 8 == 0 && offReservedZero c.ctxOff

/-- The words of a data packet under the configuration, `3 * CFG_SAMPLE_COUNT` payload bytes (R198). -/
def Cfg.dataPacketWords (c : Cfg) : Nat :=
  prefixWords (fmtPt c.dataFmt) (fmtCidEn c.dataFmt) (fmtTsi c.dataFmt) (fmtTsf c.dataFmt)
    + 3 * c.blockSize / 4 + (fmtTrailerEn c.dataFmt).toNat

/-- Two 4-byte ranges intersect. -/
def rangesMeet (a b : Nat) : Bool := decide (a < b + 4) && decide (b < a + 4)

/-- The three substituted ranges lie in the 48 bytes and are pairwise disjoint (R18, R198). -/
def offsetsLegal (w : Word) : Bool :=
  decide (offBw w ≤ 44) && decide (offFreq w ≤ 44) && decide (offSr w ≤ 44)
    && !rangesMeet (offBw w) (offFreq w) && !rangesMeet (offBw w) (offSr w)
    && !rangesMeet (offFreq w) (offSr w)

/-- START's checks 1 to 7; the first that fails (R198, R243). -/
def Cfg.startError (c : Cfg) : Option ErrCode :=
  if c.bitRes ∉ Config.supportedRes then some .cfgBitRes
  else if c.rate = 0 then some .cfgSampleRate
  else if c.blockSize = 0 ∨ c.blockSize % 4 ≠ 0 then some .cfgBlockSize
  else if c.dqCap = 0 then some .cfgQueueCap
  else if !c.reservedZero then some .cfgReserved
  else if c.dataPacketWords > 65535 then some .sizeOverflow
  else if c.ctxFreqInt > 0 ∧ !offsetsLegal c.ctxOff then some .cfgCtxTemplate
  else none

/-- A failed START: `CFG_ERR` and the code; nothing else changes (R198, R235). -/
def State.startFailed (s : State) (e : ErrCode) : State :=
  { s with cfgErr := true, errCode := e.code, errOp := opStart }

/-- A successful START: all run state afresh, `T0` from `TOD`, the stages running (R198, R263). -/
def State.startRun (s : State) (tod : BitVec 96) : State :=
  { s with
    cfgErr := false, errCode := 0, errOp := 0
    iq := [], dq := [], oq := [], acc := []
    blkIdx := 0, seq := 0, ctxSeq := 0, t0 := tod
    oHold := none, rlOutLast := none, rlCtxLast := none
    mtr := Meter.reset
    dropDqCnt := 0, dropOqCnt := 0, decFailCnt := 0
    dropDq := false, dropOq := false, decFail := false, encFail := false, stopReq := false
    pState := .run, oState := .wait, cState := .run
    running := true }

/-- START (R198): ignored while running or degraded; `tod` is what its read of `TOD` returns (log 7). -/
def execStart (tod : BitVec 96) (s : State) : Answer :=
  if s.running || s.degraded then finish s .done
  else match s.cfg.startError with
    | some e => finish (s.startFailed e) (.error e)
    | none => finish (s.startRun tod) .done

/-- STOP (R199): ignored when not running. -/
def execStop (s : State) : Answer :=
  if s.running then finish { s with stopReq := true } .done else finish s .done

/-- HOST.DEC (R214): in any state; a failure is recorded (R239). -/
def execHostDec (b : Bytes) (s : State) : Answer :=
  match pktDec s.params.layout b with
  | .error e => finish (s.decodeFailed e) (.error e)
  | .ok p => finish s (.packet p)

/-- RESET (R260): every register to its reset value. `NOW` is not touched, nor are the model's own
fields (log 1, 5, 6, 9). -/
def execReset (s : State) : Answer :=
  finish { State.reset with params := s.params, now := s.now, agenda := s.agenda, drawn := s.drawn } .done

/-- CFG.WRITE (R20): ignored while running. -/
def execCfgWrite (a : CfgAssign) (s : State) : Answer :=
  if s.running then finish s .done else finish { s with cfg := s.cfg.write a } .done

/-- REG.READ (R20): changes nothing. -/
def execRegRead (r : RegId) (s : State) : Answer := finish s (s.readReg r)

end Sys2Proof.Machine
end

