-- ==== Sys2Proof/Machine/RateMeter.lean ====
section
/-! DEFINITION. The rate limiter's RL.DUE and RL.MARK and the throughput meter's MTR.OBS
(spec/44_rate_limiter_meter.md). RL.CALL is in LimiterCall.lean, after the operations it wraps. -/

namespace Sys2Proof.Machine

/-- A value as a register of `w` bits holds it. The spec has no rule for a value that does not fit
(R7): it is a free value (log 13). -/
def fitRegister (w v : Nat) (free : BitVec 64) : BitVec w :=
  if v < 2 ^ w then BitVec.ofNat w v else free.setWidth w

/-- The observation itself: bytes counted and the instantaneous rate, or the window opened (R166). -/
def Meter.observe (m : Meter) (hz now n drawn : Nat) : Meter :=
  let m' := match m.last with
    | some t =>
      { m with
        bytes := fitRegister 64 (m.bytes.toNat + n) (Config.meterOverflow drawn .bytes)
        inst := if now > t then fitRegister 64 (n * hz / (now - t)) (Config.meterOverflow drawn .inst)
          else m.inst }
    | none => { m with winStart := now }
  { m' with
    last := some now
    cnt := fitRegister 32 (m.cnt.toNat + 1) (Config.meterOverflow drawn .cnt) }

/-- The report at the end of a window of `mtrN` observations (R166). -/
def Meter.report (m : Meter) (hz mtrN now drawn : Nat) : Meter :=
  if m.cnt.toNat ≥ mtrN then
    { m with
      rate := if now > m.winStart then
          fitRegister 64 (m.bytes.toNat * hz / (now - m.winStart)) (Config.meterOverflow drawn .rate)
        else m.rate
      reports := satInc m.reports
      cnt := 0
      bytes := 0
      winStart := now }
  else m

/-- MTR.OBS(n) on the state (R166). -/
def State.observe (s : State) (n : Nat) : State :=
  { s.draw with
    mtr := (s.mtr.observe s.params.tickHz s.now n s.drawn).report s.params.tickHz s.params.mtrN s.now s.drawn }

/-- RL.DUE (R160). -/
def execRlDue (l : Limiter) (s : State) : Answer := finish s (.bool (s.due l))

/-- RL.MARK (R161). -/
def execRlMark (l : Limiter) (s : State) : Answer := finish (s.mark l) .done

/-- MTR.OBS (R166). -/
def execMtrObs (n : Nat) (s : State) : Answer := finish (s.observe n) .done

end Sys2Proof.Machine
end

