-- ==== Sys2Proof/Machine/LimiterCall.lean ====
section
/-! DEFINITION. RL.CALL, the limiter wrapped around an operation (spec/44_rate_limiter_meter.md rule
R162), and the two operations the pipeline wraps: the output stage's push and the context stage's
building and pushing (spec/46_queues_pipeline.md rules R205, R207). -/

namespace Sys2Proof.Machine

/-- Build a context packet and push it to `OQ`; an encoding error is recorded and nothing is pushed
(R207, R236). -/
def State.buildAndPush (s : State) (tod : BitVec 96) : State × Result :=
  match (s.frameCtx tod).2 with
  | .error e => ((s.frameCtx tod).1.encodeFailed e opFrameCtx, .error e)
  | .ok pkt => (s.frameCtx tod).1.tryPush (.oq pkt)

/-- A wrapped operation, or no step where it has none (R204, R205, R207; log 16). -/
def State.runWrapped {l : Limiter} (s : State) (op : WrappedOp l) : Option (State × Result) :=
  match op with
  | .tryPush pkt => some (s.tryPush (.oq pkt))
  | .pop => s.pop .dq
  | .mtrObs n => some (s.observe n, .done)
  | .pushHold => match s.oHold with
    | none => none
    | some pkt => some (s.tryPush (.oq pkt))
  | .ctxPayload => some (s.draw, .bytes s.contextPayload)
  | .frameCtx tod => some ((s.frameCtx tod).1, resultOf .bytes (s.frameCtx tod).2)
  | .pktEnc p => some (s, resultOf .bytes (pktEnc s.params.layout p))
  | .buildAndPush tod => some (s.buildAndPush tod)

/-- RL.CALL(L, op): no step while not due; then `op` and the mark in one step, the mark whether
`op`'s push succeeded or dropped (R162). -/
def State.limiterCall (s : State) (l : Limiter) (op : WrappedOp l) : Option (State × Result) :=
  if s.due l then (s.runWrapped op).map fun a => (a.1.mark l, a.2) else none

/-- RL.CALL (R162). -/
def execRlCall (l : Limiter) (op : WrappedOp l) (s : State) : Answer := finishOrHold s (s.limiterCall l op)

end Sys2Proof.Machine
end

