-- ==== Sys2Proof/Machine/Queues.lean ====
section
/-! DEFINITION. The queue primitives as operations: Q.TRYPUSH, Q.POP (spec/46_queues_pipeline.md
rules R195, R196). -/

namespace Sys2Proof.Machine

/-- Q.TRYPUSH (R195). On its own it takes any byte sequence as a packet for `DQ` or `OQ`: R195 says only 'an
item', and stages P, O and C push none but PKT.ENC's bytes (DESIGN CHOICE, log 28). A chunk longer than
`MAX_CHUNK` is outside `IQ`'s items (U12; log 14). -/
def execQTryPush (item : QueueItem) (s : State) : Answer :=
  if s.itemFits item then finish (s.tryPush item).1 (s.tryPush item).2 else .refused .chunkTooLong

/-- Q.POP (R196): no step on an empty queue. -/
def execQPop (q : QueueId) (s : State) : Answer := finishOrHold s (s.pop q)

end Sys2Proof.Machine
end

