-- ==== Sys2Proof/Machine/Stages.lean ====
section
/-! DEFINITION. The steps of stages P, O and C and their exits: P.LOAD, P.EMIT, O.FETCH, O.SEND, C.EMIT,
C.EXIT, P.STOP, O.STOP, C.STOP (spec/46_queues_pipeline.md rules R199 to R208). A step whose guard is
false is no step: the agent waits (log 4). That `RUNNING` falls when the last stage is out is done
after any step (R199), in `step` (log 19). -/

namespace Sys2Proof.Machine

/-- P.LOAD's guard (R200, R201). -/
def State.canLoad (s : State) : Bool :=
  s.pState == .run && !s.stopReq && s.accRoom

/-- P.EMIT's guard but for the full block, which ACC.EMIT requires (R200, R202). -/
def State.canEmit (s : State) : Bool := s.pState == .run && !s.stopReq

/-- O.FETCH's guard but for a packet in `DQ` (R200, R204). -/
def State.canFetch (s : State) : Bool := s.oState == .wait && !s.stopReq

/-- O.SEND's guard but for the limiter (R200, R205). -/
def State.canSend (s : State) : Bool := s.oState == .holding && !s.stopReq

/-- C.EMIT's guard but for the limiter (R200, R207). -/
def State.canEmitContext (s : State) : Bool :=
  s.cState == .run && !s.stopReq && decide (s.cfg.ctxFreqInt > 0)

/-- C.EXIT's guard, with `STOP_REQ = 0` as R199 and R200 require of every normal step (R208; log 18). -/
def State.canExit (s : State) : Bool :=
  s.cState == .run && !s.stopReq && decide (s.cfg.ctxFreqInt ≤ 0)

/-- P.LOAD: the oldest chunk of `IQ` is appended to `ACC` (R201). -/
def execPLoad (s : State) : Answer :=
  if s.canLoad then
    match s.iq with
    | [] => hold s
    | c :: rest => finish (State.accAppend { s with iq := rest } c) .done
  else hold s

/-- Frame a block and push the packet to `DQ`; an encoding error is recorded and the block is
discarded (R202, R236). -/
def State.frameAndPush (s : State) (blk : Chunk) : State × Result :=
  match (s.frameData blk).2 with
  | .error e => ((s.frameData blk).1.encodeFailed e opFrameData, .error e)
  | .ok pkt => (s.frameData blk).1.tryPush (.dq pkt)

/-- P.EMIT (R202). -/
def execPEmit (s : State) : Answer :=
  if s.canEmit then finishOrHold s (s.accTake.map fun a => a.1.frameAndPush a.2) else hold s

/-- O.FETCH (R204). -/
def execOFetch (s : State) : Answer :=
  if s.canFetch then
    match s.dq with
    | [] => hold s
    | pkt :: rest => finish { s with dq := rest, oHold := some pkt, oState := .holding } .done
  else hold s

/-- The output stage's observation of a packet that entered `OQ` (R205, D22). -/
def State.observeIfOk (s : State) (r : Result) (n : Nat) : State :=
  if r = .ok then s.observe n else s

/-- O.SEND: RL.CALL(OUT, push) in one step, the meter on success, the hold cleared (R205). -/
def execOSend (s : State) : Answer :=
  if s.canSend then
    match s.oHold with
    | none => hold s
    | some pkt =>
      finishOrHold s ((s.limiterCall .out .pushHold).map fun a =>
        ({ a.1.observeIfOk a.2 pkt.length with oHold := none, oState := .wait }, a.2))
  else hold s

/-- C.EMIT: RL.CALL(CTX, build and push) in one step (R207). -/
def execCEmit (tod : BitVec 96) (s : State) : Answer :=
  if s.canEmitContext then finishOrHold s (s.limiterCall .ctx (.buildAndPush tod)) else hold s

/-- C.EXIT (R208). -/
def execCExit (s : State) : Answer :=
  if s.canExit then finish { s with cState := .done } .done else hold s

/-- P.STOP (R199). -/
def execPStop (s : State) : Answer :=
  if s.stopReq && s.stageRunning .p then finish { s with pState := .off } .done else hold s

/-- O.STOP: a held packet is not sent (R199). -/
def execOStop (s : State) : Answer :=
  if s.stopReq && s.stageRunning .o then finish { s with oHold := none, oState := .off } .done else hold s

/-- C.STOP (R199). -/
def execCStop (s : State) : Answer :=
  if s.stopReq && s.stageRunning .c then finish { s with cState := .off } .done else hold s

end Sys2Proof.Machine
end

