-- ==== Sys2Proof/Machine/Wire.lean ====
section
/-! DEFINITION. The wire formats of spec/30_encoding.md read by the codec, one meaning per row of
spec/opcode_table.json that is not an operation of R77 (log 3). Each returns what the word, field or
packet of that format stands for; none writes a register. -/

namespace Sys2Proof.Machine

/-! ## Words and fields -/

/-- A Header word under `VITA` (R60): its eight fields. -/
def execWordHeaderVita (h : Header) (s : State) : Answer := finish s (.header h)

/-- A Header word under `LISTED` (R61). -/
def execWordHeaderListed (h : Header) (s : State) : Answer := finish s (.header h)

/-- A Trailer word under `VITA` (R62, R96). -/
def execWordTrailerVita (enables indicators : BitVec 12) (contextEn : Bool) (contextCount : BitVec 7)
    (s : State) : Answer :=
  finish s (.trailer (trailerOfFields enables indicators contextEn contextCount))

/-- A Trailer word under `LISTED` (R62, R96). -/
def execWordTrailerListed (enables indicators : BitVec 12) (contextEn : Bool)
    (contextCount : BitVec 7) (s : State) : Answer :=
  finish s (.trailer (trailerOfFields enables indicators contextEn contextCount))

/-- The stream-id word (R64). -/
def execWordStreamId (sid : Word) (s : State) : Answer := finish s (.word sid)

/-- The first class-identifier word: the `oui`, padding ignored (R65, R75). -/
def execWordClassId1 (oui : BitVec 24) (s : State) : Answer := finish s (.oui oui)

/-- The second class-identifier word (R65). -/
def execWordClassId2 (infoClass packetClass : BitVec 16) (s : State) : Answer :=
  finish s (.classCodes infoClass packetClass)

/-- The integer-timestamp word alone: whole seconds (R70, R113). -/
def execWordTsInt (sec : Word) (s : State) : Answer := finish s (.timestamp (tsDec (some sec) none))

/-- The fractional-timestamp field alone: any 64-bit number of picoseconds (R71, R113). -/
def execFieldTsFrac (frac : BitVec 64) (s : State) : Answer :=
  finish s (.timestamp (tsDec none (some frac)))

/-- A sample triplet: two unsigned 12-bit values (R69, R142). -/
def execFieldTriplet (first second : BitVec 12) (s : State) : Answer := finish s (.values [first, second])

/-- Byte `k` of a 48-byte payload; beyond it there is none, and the value is free (log 12). -/
def payloadByte (b : Bytes) (drawn k : Nat) : Byte :=
  if k < 48 then b.getD k 0 else Config.payloadOverrunByte drawn k

/-- The 4-byte big-endian integer at an offset of the payload (R72). -/
def payloadField (b : Bytes) (drawn off : Nat) : Word :=
  BitVec.ofNat 32 (ube ((List.range 4).map fun j => payloadByte b drawn (off + j)))

/-- Offset `k` lies in one of the three substituted ranges. -/
def inSubstituted (o : Word) (k : Nat) : Bool :=
  [offBw o, offFreq o, offSr o].any fun a => decide (a ≤ k) && decide (k < a + 4)

/-- Every byte outside the substituted ranges is the template's (R182). -/
def matchesTemplate (c : Cfg) (b : Bytes) : Bool :=
  (List.range 48).all fun k => inSubstituted c.ctxOff k || b.getD k 0 == c.templateBytes.getD k 0

/-- A context payload (R72): its three substituted fields, and whether the rest is the template. -/
def execFieldCtxPayload (b : Bytes) (s : State) : Answer :=
  let o := s.cfg.ctxOff
  finish s.draw (.ctxFields (payloadField b s.drawn (offBw o)) (payloadField b s.drawn (offFreq o))
    (payloadField b s.drawn (offSr o)) (matchesTemplate s.cfg b))

/-! ## Packets -/

/-- A packet of type `pt` read by PKT.DEC under the layout its bytes have (R120; log 3). -/
def readPacket (pt : BitVec 4) (p : WirePacket) (s : State) : Answer :=
  finish s (resultOf .packet (pktDec p.layout (p.bytes pt)))

/-- `PT_DATA` (R63): no stream id, `tsm` decodes to `None`. -/
def execPktPtData (p : WirePacket) (s : State) : Answer := readPacket 0 p s

/-- `PT_DATA_WITH_ID` (R64): the stream-id word follows the Header. -/
def execPktPtDataWithId (p : WirePacket) (s : State) : Answer := readPacket 1 p s

/-- `PT_EXT_DATA` (R63). -/
def execPktPtExtData (p : WirePacket) (s : State) : Answer := readPacket 2 p s

/-- `PT_EXT_DATA_WITH_ID`: no stream id in this spec (R64). -/
def execPktPtExtDataWithId (p : WirePacket) (s : State) : Answer := readPacket 3 p s

/-- `PT_CONTEXT`: `tsm` decodes to `Some` (R63). -/
def execPktPtContext (p : WirePacket) (s : State) : Answer := readPacket 4 p s

/-- `PT_EXT_CONTEXT`: `tsm` decodes to `Some` (R63). -/
def execPktPtExtContext (p : WirePacket) (s : State) : Answer := readPacket 5 p s

/-- Type 6, no name: like `PT_DATA` (R75). -/
def execPktUnnamed6 (p : WirePacket) (s : State) : Answer := readPacket 6 p s

/-- Type 7 (R75). -/
def execPktUnnamed7 (p : WirePacket) (s : State) : Answer := readPacket 7 p s

/-- Type 8 (R75). -/
def execPktUnnamed8 (p : WirePacket) (s : State) : Answer := readPacket 8 p s

/-- Type 9 (R75). -/
def execPktUnnamed9 (p : WirePacket) (s : State) : Answer := readPacket 9 p s

/-- Type 10 (R75). -/
def execPktUnnamed10 (p : WirePacket) (s : State) : Answer := readPacket 10 p s

/-- Type 11 (R75). -/
def execPktUnnamed11 (p : WirePacket) (s : State) : Answer := readPacket 11 p s

/-- Type 12 (R75). -/
def execPktUnnamed12 (p : WirePacket) (s : State) : Answer := readPacket 12 p s

/-- Type 13 (R75). -/
def execPktUnnamed13 (p : WirePacket) (s : State) : Answer := readPacket 13 p s

/-- Type 14 (R75). -/
def execPktUnnamed14 (p : WirePacket) (s : State) : Answer := readPacket 14 p s

/-- Type 15 (R75). -/
def execPktUnnamed15 (p : WirePacket) (s : State) : Answer := readPacket 15 p s

end Sys2Proof.Machine
end

