-- ==== Sys2Proof/Machine/Dispatch.lean ====
section
/-! DEFINITION. One arm per row of spec/opcode_table.json, each one call of its meaning. -/

namespace Sys2Proof.Machine

def exec (i : Instr) (s : State) : Host.Outcome State Fault Refusal :=
  match i with
  | .bfDec d w => Sys2Proof.Machine.execBfDec d w s
  | .bfEnc d v => Sys2Proof.Machine.execBfEnc d v s
  | .hdrEnc h => Sys2Proof.Machine.execHdrEnc h s
  | .hdrDec w => Sys2Proof.Machine.execHdrDec w s
  | .trlEnc t => Sys2Proof.Machine.execTrlEnc t s
  | .trlDec w => Sys2Proof.Machine.execTrlDec w s
  | .cidEnc c => Sys2Proof.Machine.execCidEnc c s
  | .cidDec b => Sys2Proof.Machine.execCidDec b s
  | .tsEnc ts tsi tsf => Sys2Proof.Machine.execTsEnc ts tsi tsf s
  | .tsDec sec frac => Sys2Proof.Machine.execTsDec sec frac s
  | .pktSize p => Sys2Proof.Machine.execPktSize p s
  | .pktEnc p => Sys2Proof.Machine.execPktEnc p s
  | .pktDec b => Sys2Proof.Machine.execPktDec b s
  | .pack12 xs => Sys2Proof.Machine.execPack12 xs s
  | .unpack12 b => Sys2Proof.Machine.execUnpack12 b s
  | .accPush c => Sys2Proof.Machine.execAccPush c s
  | .accEmit => Sys2Proof.Machine.execAccEmit s
  | .rlDue l => Sys2Proof.Machine.execRlDue l s
  | .rlMark l => Sys2Proof.Machine.execRlMark l s
  | .rlCall l op => Sys2Proof.Machine.execRlCall l op s
  | .mtrObs n => Sys2Proof.Machine.execMtrObs n s
  | .tsBlock k => Sys2Proof.Machine.execTsBlock k s
  | .frameData blk => Sys2Proof.Machine.execFrameData blk s
  | .ctxPayload => Sys2Proof.Machine.execCtxPayload s
  | .frameCtx tod => Sys2Proof.Machine.execFrameCtx tod s
  | .qTryPush item => Sys2Proof.Machine.execQTryPush item s
  | .qPop q => Sys2Proof.Machine.execQPop q s
  | .start tod => Sys2Proof.Machine.execStart tod s
  | .stop => Sys2Proof.Machine.execStop s
  | .pLoad => Sys2Proof.Machine.execPLoad s
  | .pEmit => Sys2Proof.Machine.execPEmit s
  | .oFetch => Sys2Proof.Machine.execOFetch s
  | .oSend => Sys2Proof.Machine.execOSend s
  | .cEmit tod => Sys2Proof.Machine.execCEmit tod s
  | .cExit => Sys2Proof.Machine.execCExit s
  | .tick n => Sys2Proof.Machine.execTick n s
  | .srcPush c => Sys2Proof.Machine.execSrcPush c s
  | .snkPop => Sys2Proof.Machine.execSnkPop s
  | .stageFault g => Sys2Proof.Machine.execStageFault g s
  | .hostDec b => Sys2Proof.Machine.execHostDec b s
  | .reset => Sys2Proof.Machine.execReset s
  | .pStop => Sys2Proof.Machine.execPStop s
  | .oStop => Sys2Proof.Machine.execOStop s
  | .cStop => Sys2Proof.Machine.execCStop s
  | .cfgWrite a => Sys2Proof.Machine.execCfgWrite a s
  | .regRead r => Sys2Proof.Machine.execRegRead r s
  | .wordHeaderVita h => Sys2Proof.Machine.execWordHeaderVita h s
  | .wordHeaderListed h => Sys2Proof.Machine.execWordHeaderListed h s
  | .wordTrailerVita enables indicators contextEn contextCount => Sys2Proof.Machine.execWordTrailerVita enables indicators contextEn contextCount s
  | .wordTrailerListed enables indicators contextEn contextCount => Sys2Proof.Machine.execWordTrailerListed enables indicators contextEn contextCount s
  | .wordStreamId sid => Sys2Proof.Machine.execWordStreamId sid s
  | .wordClassId1 oui => Sys2Proof.Machine.execWordClassId1 oui s
  | .wordClassId2 infoClass packetClass => Sys2Proof.Machine.execWordClassId2 infoClass packetClass s
  | .wordTsInt sec => Sys2Proof.Machine.execWordTsInt sec s
  | .fieldTsFrac frac => Sys2Proof.Machine.execFieldTsFrac frac s
  | .fieldTriplet first second => Sys2Proof.Machine.execFieldTriplet first second s
  | .fieldCtxPayload b => Sys2Proof.Machine.execFieldCtxPayload b s
  | .pktPtData p => Sys2Proof.Machine.execPktPtData p s
  | .pktPtDataWithId p => Sys2Proof.Machine.execPktPtDataWithId p s
  | .pktPtExtData p => Sys2Proof.Machine.execPktPtExtData p s
  | .pktPtExtDataWithId p => Sys2Proof.Machine.execPktPtExtDataWithId p s
  | .pktPtContext p => Sys2Proof.Machine.execPktPtContext p s
  | .pktPtExtContext p => Sys2Proof.Machine.execPktPtExtContext p s
  | .pktUnnamed6 p => Sys2Proof.Machine.execPktUnnamed6 p s
  | .pktUnnamed7 p => Sys2Proof.Machine.execPktUnnamed7 p s
  | .pktUnnamed8 p => Sys2Proof.Machine.execPktUnnamed8 p s
  | .pktUnnamed9 p => Sys2Proof.Machine.execPktUnnamed9 p s
  | .pktUnnamed10 p => Sys2Proof.Machine.execPktUnnamed10 p s
  | .pktUnnamed11 p => Sys2Proof.Machine.execPktUnnamed11 p s
  | .pktUnnamed12 p => Sys2Proof.Machine.execPktUnnamed12 p s
  | .pktUnnamed13 p => Sys2Proof.Machine.execPktUnnamed13 p s
  | .pktUnnamed14 p => Sys2Proof.Machine.execPktUnnamed14 p s
  | .pktUnnamed15 p => Sys2Proof.Machine.execPktUnnamed15 p s

end Sys2Proof.Machine
end

