-- ==== Sys2Proof/Machine/Step.lean ====
section
/-! DEFINITION. One step of the machine: the operation presented next is decoded and performed, and
then the run ends if the last stage is out (spec/46_queues_pipeline.md rule R199; log 1, log 19). -/

namespace Sys2Proof.Machine

/-- What is done after a step that answers a next state (R199). -/
def afterStep : Host.Outcome State Fault Refusal → Host.Outcome State Fault Refusal
  | .next s => .next s.completeStop
  | .fault r => .fault r
  | .refused r => .refused r

/-- Perform the operation a transfer presents. -/
def perform (t : Transfer) (s : State) : Host.Outcome State Fault Refusal :=
  match decode t with
  | .error e => .fault (.noSuchOperation e)
  | .ok i => afterStep (exec i s)

/-- One step of VRTB and its environment. -/
def step (s : State) : Host.Outcome State Fault Refusal := perform s.fetch.1 s.fetch.2

/-- `s` with an opcode-table row's bits presented next (log 1). Bits that no row has are presented as a
command of no bytes, which is no operation. -/
def State.withFetchWord (s : State) (nbits w : Nat) : State :=
  match tableTransfer nbits w with
  | some t => s.present t
  | none => s.present ⟨.command, []⟩

end Sys2Proof.Machine
end

