-- ==== Sys2Proof/Safety.lean ====
section
/-! DEFINITION. What the statements mean by a legal state, a self-consistent Packet and a run. Each
invariant names the rule of spec/ it comes from. -/

namespace Sys2Proof.Machine

/-! ## Invariants of the state -/

/-- The bounds R5 puts on the OPEN parameters. -/
abbrev ParamsLegal (s : State) : Prop :=
  1 ≤ s.params.tickHz ∧ 1 ≤ s.params.iqCap ∧ 1 ≤ s.params.oqCap ∧ 1 ≤ s.params.mtrN

/-- `O_STATE = O_HOLDING` if and only if `O_HOLD` is `Some` (R29). -/
abbrev HoldMatchesState (s : State) : Prop := s.oState = .holding ↔ s.oHold.isSome = true

/-- No queue is longer than its capacity (R28, R52). `CFG_DQ_CAP` may be rewritten while no run is on,
so its bound is a bound of the run. -/
abbrev QueuesBounded (s : State) : Prop :=
  s.iq.length ≤ s.params.iqCap ∧ s.oq.length ≤ s.params.oqCap ∧
    (s.running = true → s.dq.length ≤ s.cfg.dqCap.toNat)

/-- `ACC` never holds more than `ACC_CAP` pairs (R5, R21, R151). `CFG_SAMPLE_COUNT` may be rewritten while
no run is on, so the bound is a bound of the run. -/
abbrev AccumulatorBounded (s : State) : Prop := s.running = true → s.acc.length ≤ s.accCap

/-- Every queued chunk is inside the envelope (R211, R252). -/
abbrev ChunksFit (s : State) : Prop := ∀ c ∈ s.iq, c.length ≤ s.params.maxChunk

/-- `count` is `BLK_IDX mod 16` at all times (R180). -/
abbrev SeqFollowsIndex (s : State) : Prop := s.seq.toNat = s.blkIdx.toNat % 16

/-- A recorded tick count is not in the future. -/
def notAhead (now : Nat) : Option Nat → Bool
  | none => true
  | some t => decide (t ≤ now)

/-- `NOW` never decreases, so no recorded tick lies ahead of it (R33, R160). -/
abbrev MarksNotAhead (s : State) : Prop :=
  notAhead s.now s.rlOutLast = true ∧ notAhead s.now s.rlCtxLast = true ∧
    notAhead s.now s.mtr.last = true ∧ s.mtr.winStart ≤ s.now

/-- `DEGRADED` is set exactly while a stage is dead (R29, R30, R213). -/
abbrev DegradedIffDead (s : State) : Prop :=
  s.degraded = true ↔ (s.pState = .dead ∨ s.oState = .dead ∨ s.cState = .dead)

/-- A run has a configuration that passes START's checks, and no `CFG_ERR` (R20, R198). -/
abbrev RunIsConfigured (s : State) : Prop :=
  s.running = true → s.cfg.startError = none ∧ s.cfgErr = false

/-- A stage is in a running state only while `RUNNING` is set (R198, R199). -/
abbrev StagesRunInARun (s : State) : Prop := s.running = false → s.allStagesOut = true

/-- A stop that every stage has observed has ended the run (R199). -/
abbrev StopIsCompleted (s : State) : Prop := s.stopReq = true → s.allStagesOut = true → s.running = false

/-- A sticky flag is set exactly when its counter counts (R30, R32). -/
abbrev FlagsMatchCounters (s : State) : Prop :=
  (s.dropDq = true ↔ s.dropDqCnt ≠ 0) ∧ (s.dropOq = true ↔ s.dropOqCnt ≠ 0) ∧
    (s.decFail = true ↔ s.decFailCnt ≠ 0)

/-- `ERR` holds a code exactly when a flag of class 1, 2 or 4 is set, and no operation without a code
(R30, R31, R235 to R241). -/
abbrev ErrMatchesFlags (s : State) : Prop :=
  (s.errCode ≠ 0 ↔ (s.cfgErr = true ∨ s.degraded = true ∨ s.decFail = true ∨ s.encFail = true)) ∧
    (s.errCode = 0 → s.errOp = 0)

/-- The window is reported before it exceeds `MTR_N` observations (R166). -/
abbrev WindowBelowGranularity (s : State) : Prop := s.mtr.cnt.toNat < s.params.mtrN

/-- A legal state: all of the above. -/
structure Legal (s : State) : Prop where
  params : ParamsLegal s
  hold : HoldMatchesState s
  queues : QueuesBounded s
  accumulator : AccumulatorBounded s
  chunks : ChunksFit s
  seq : SeqFollowsIndex s
  marks : MarksNotAhead s
  degraded : DegradedIffDead s
  configured : RunIsConfigured s
  stages : StagesRunInARun s
  stop : StopIsCompleted s
  counters : FlagsMatchCounters s
  err : ErrMatchesFlags s
  window : WindowBelowGranularity s

/-! ## Packets -/

/-- The document's "self-consistent presence flags": encodable, and nothing the record holds is left off
the wire (R114). -/
structure SelfConsistent (p : Packet) : Prop where
  encodable : pktEncError p = none
  streamId : p.streamId.isSome = true ↔ p.packetType = Config.ptDataWithId
  tsm : p.tsm.isSome = true ↔ p.packetType ∈ Config.contextTypes
  timestamp : p.timestamp = none ↔ (p.tsi = Config.tsiNone ∧ p.tsf = Config.tsfNone)
  noSeconds : p.tsi = Config.tsiNone → p.timestamp.getD 0 < picos
  noFraction : p.tsf = Config.tsfNone → p.timestamp.getD 0 % picos = 0

/-- The bits of accepted packet bytes that PKT.DEC reads but does not keep have the values PKT.ENC gives
them: the exceptions R122 lists do not arise. The masks are those of R60 to R62 and R65. -/
structure CanonicalWire (l : Layout) (b : Bytes) (p : Packet) : Prop where
  reserved : (BitVec.ofNat 32 (ube (slice b 0 4))).getLsbD (match l with | .vita => 25 | .listed => 6) = false
  matchFlag : p.tsm = none →
    (BitVec.ofNat 32 (ube (slice b 0 4))).getLsbD (match l with | .vita => 24 | .listed => 7) = false
  padding : p.oui.isSome = true → b.getD (if p.packetType = Config.ptDataWithId then 8 else 4) 0 = 0
  fraction : p.tsf ≠ Config.tsfNone →
    ube (slice b (4 + (if p.packetType = Config.ptDataWithId then 4 else 0)
      + (if p.oui.isSome then 8 else 0) + (if p.tsi ≠ Config.tsiNone then 4 else 0)) 8) < picos
  noCount : ∀ t, p.trailer = some t → t.contextCount = none →
    (BitVec.ofNat 32 (ube (slice b (b.length - 4) 4))).extractLsb'
      (match l with | .vita => 0 | .listed => 25) 7 = 0

/-! ## BitField layouts -/

/-- A descriptor list that is a layout (R90). -/
abbrev IsLayout (d : List Descriptor) : Prop :=
  (∀ x ∈ d, 1 ≤ x.width) ∧ (d.map Descriptor.width).sum = 32

/-- `pos[k]`, the lowest bit of descriptor `k` (R90). -/
def fieldPos (d : List Descriptor) (k : Nat) : Nat := 32 - ((d.take (k + 1)).map Descriptor.width).sum

/-! ## Substituted ranges of the context payload -/

/-- Each offset at most 44, and the three 4-byte ranges pairwise disjoint (R18). -/
abbrev OffsetsLegal (w : Word) : Prop :=
  (offBw w ≤ 44 ∧ offFreq w ≤ 44 ∧ offSr w ≤ 44) ∧
    (offBw w + 4 ≤ offFreq w ∨ offFreq w + 4 ≤ offBw w) ∧
    (offBw w + 4 ≤ offSr w ∨ offSr w + 4 ≤ offBw w) ∧
    (offFreq w + 4 ≤ offSr w ∨ offSr w + 4 ≤ offFreq w)

/-- Byte `k` of the template: bits `31 - 8 * (k mod 4)` down to `24 - 8 * (k mod 4)` of word `k div 4`
(R19). -/
def Cfg.templateByte (c : Cfg) (k : Nat) : Byte :=
  (c.ctxTemplate.toList.getD (k / 4) 0).extractLsb' (24 - 8 * (k % 4)) 8

/-! ## Runs of part of the machine -/

/-- A run of the accumulator alone: chunks pushed and blocks emitted, in any order the operations allow
(R153). An ACC.PUSH or ACC.EMIT that waits is no step and not part of a run. -/
inductive AccumulatorRun : State → List Chunk → List Chunk → State → Prop where
  | nil (s : State) : AccumulatorRun s [] [] s
  | push {s t u : State} {c : Chunk} {cs bs : List Chunk} :
      exec (.accPush c) s = .next t → t.out = .done → AccumulatorRun t cs bs u →
        AccumulatorRun s (c :: cs) bs u
  | emit {s t u : State} {b : Chunk} {cs bs : List Chunk} :
      exec .accEmit s = .next t → t.out = .pairs b → AccumulatorRun t cs bs u →
        AccumulatorRun s cs (b :: bs) u

/-- A run in which limiter `l` is called at the listed values of `NOW`: by RL.CALL, by O.SEND for the output
stage (R205), by C.EMIT for the context stage (R207), every other operation leaving the limiter's register
alone, and all of them its interval and `TICK_HZ` (R163). -/
inductive LimiterRun (l : Limiter) : State → List Nat → Prop where
  | nil (s : State) : LimiterRun l s []
  | call {s t : State} {op : WrappedOp l} {times : List Nat} :
      exec (.rlCall l op) s = .next t → t.out ≠ .held → t.limiterNum l = s.limiterNum l →
        t.limiterDen l = s.limiterDen l → LimiterRun l t times → LimiterRun l s (s.now :: times)
  | send {s t : State} {times : List Nat} :
      l = .out → exec .oSend s = .next t → t.out ≠ .held → t.limiterNum l = s.limiterNum l →
        t.limiterDen l = s.limiterDen l → LimiterRun l t times → LimiterRun l s (s.now :: times)
  | emit {s t : State} {tod : BitVec 96} {times : List Nat} :
      l = .ctx → exec (.cEmit tod) s = .next t → t.out ≠ .held → t.limiterNum l = s.limiterNum l →
        t.limiterDen l = s.limiterDen l → LimiterRun l t times → LimiterRun l s (s.now :: times)
  | other {s t : State} {i : Instr} {times : List Nat} :
      exec i s = .next t → t.limiterLast l = s.limiterLast l → t.limiterNum l = s.limiterNum l →
        t.limiterDen l = s.limiterDen l → t.params = s.params → LimiterRun l t times →
        LimiterRun l s times

/-! ## Agents and fair runs (R209, R250 to R253) -/

/-- The agents of R250 and R252. -/
inductive Agent where
  | host
  | src
  | snk
  | environment
  | stage (g : Stage)
deriving DecidableEq, Repr

/-- The agent whose step an operation is (R198 to R214, R260). The primitives are performed inside the stages'
steps and the pure operations and wire formats are nobody's steps: a run of agents has none of them on its
own (R77, R250; log 15). -/
def agentOf : Instr → Option Agent
  | .bfDec _ _ => none
  | .bfEnc _ _ => none
  | .hdrEnc _ => none
  | .hdrDec _ => none
  | .trlEnc _ => none
  | .trlDec _ => none
  | .cidEnc _ => none
  | .cidDec _ => none
  | .tsEnc _ _ _ => none
  | .tsDec _ _ => none
  | .pktSize _ => none
  | .pktEnc _ => none
  | .pktDec _ => none
  | .pack12 _ => none
  | .unpack12 _ => none
  | .accPush _ => none
  | .accEmit => none
  | .rlDue _ => none
  | .rlMark _ => none
  | .rlCall _ _ => none
  | .mtrObs _ => none
  | .tsBlock _ => none
  | .frameData _ => none
  | .ctxPayload => none
  | .frameCtx _ => none
  | .qTryPush _ => none
  | .qPop _ => none
  | .start _ => some .host
  | .stop => some .host
  | .pLoad => some (.stage .p)
  | .pEmit => some (.stage .p)
  | .oFetch => some (.stage .o)
  | .oSend => some (.stage .o)
  | .cEmit _ => some (.stage .c)
  | .cExit => some (.stage .c)
  | .tick _ => some .environment
  | .srcPush _ => some .src
  | .snkPop => some .snk
  | .stageFault _ => some .environment
  | .hostDec _ => some .host
  | .reset => some .host
  | .pStop => some (.stage .p)
  | .oStop => some (.stage .o)
  | .cStop => some (.stage .c)
  | .cfgWrite _ => some .host
  | .regRead _ => some .host
  | .wordHeaderVita _ => none
  | .wordHeaderListed _ => none
  | .wordTrailerVita _ _ _ _ => none
  | .wordTrailerListed _ _ _ _ => none
  | .wordStreamId _ => none
  | .wordClassId1 _ => none
  | .wordClassId2 _ _ => none
  | .wordTsInt _ => none
  | .fieldTsFrac _ => none
  | .fieldTriplet _ _ => none
  | .fieldCtxPayload _ => none
  | .pktPtData _ => none
  | .pktPtDataWithId _ => none
  | .pktPtExtData _ => none
  | .pktPtExtDataWithId _ => none
  | .pktPtContext _ => none
  | .pktPtExtContext _ => none
  | .pktUnnamed6 _ => none
  | .pktUnnamed7 _ => none
  | .pktUnnamed8 _ => none
  | .pktUnnamed9 _ => none
  | .pktUnnamed10 _ => none
  | .pktUnnamed11 _ => none
  | .pktUnnamed12 _ => none
  | .pktUnnamed13 _ => none
  | .pktUnnamed14 _ => none
  | .pktUnnamed15 _ => none

/-- An agent takes step `i` from `s` to `t`: what a step of the machine that performs `i` does, its guard
being true (R199, R200). -/
def Takes (i : Instr) (s t : State) : Prop :=
  (agentOf i).isSome = true ∧ WellFormed i = true ∧ afterStep (exec i s) = .next t ∧ t.out ≠ .held

/-- Step `i` is enabled in `s` (R200). -/
def Enabled (i : Instr) (s : State) : Prop := ∃ t, Takes i s t

/-- A run of all the agents: it has no end of its own (R209), and any agent may take any of its enabled steps
at any moment. -/
structure Run where
  state : Nat → State
  move : Nat → Instr
  taken : ∀ n, Takes (move n) (state n) (state (n + 1))

/-- The only scheduling assumption (R209): a step of a stage that stays enabled is eventually taken, and TICK is
taken infinitely often. A step is its OPID, so that C.EMIT is one step whatever `TOD` it reads. The other
agents owe nothing: R211, R212, U13 and U14 let them act or not (log 25). -/
def WeaklyFair (r : Run) : Prop :=
  (∀ (i : Instr) (g : Stage) (n : Nat), agentOf i = some (.stage g) → ∃ m, n ≤ m ∧
    (opid (r.move m) = opid i ∨ ∀ j, opid j = opid i → ¬ Enabled j (r.state m))) ∧
  ∀ n, ∃ m k, n ≤ m ∧ r.move m = .tick k

/-! ## What becomes of the framed packets (R209) -/

/-- The packets and blocks of a stretch of a run, oldest first: what P.EMIT queued, and how many blocks it
dropped or could not encode; what left `O_HOLD`, what of it entered `OQ`, how many of those packets were
dropped at `OQ`, and how many were given up by O.STOP or a fault of stage O. -/
structure Account where
  queued : List Bytes
  droppedDq : Nat
  failed : Nat
  left : List Bytes
  entered : List Bytes
  droppedOq : Nat
  givenUp : Nat

/-- Nothing has happened yet. -/
def Account.none : Account := ⟨[], 0, 0, [], [], 0, 0⟩

/-- The blocks framed. -/
def Account.framed (a : Account) : Nat := a.queued.length + a.droppedDq + a.failed

/-- A stretch of a run of the agents, with its account. RESET and a START that is not ignored end it: they
empty the queues. -/
inductive DataRun : State → Account → State → Prop where
  | nil (s : State) : DataRun s Account.none s
  | emitOk {s t u : State} {a : Account} {b : Bytes} :
      Takes .pEmit s t → t.out = .ok → t.dq = s.dq ++ [b] → DataRun t a u →
        DataRun s { a with queued := b :: a.queued } u
  | emitFull {s t u : State} {a : Account} :
      Takes .pEmit s t → t.out = .full → DataRun t a u → DataRun s { a with droppedDq := a.droppedDq + 1 } u
  | emitError {s t u : State} {a : Account} {e : ErrCode} :
      Takes .pEmit s t → t.out = .error e → DataRun t a u → DataRun s { a with failed := a.failed + 1 } u
  | sendOk {s t u : State} {a : Account} {b : Bytes} :
      Takes .oSend s t → t.out = .ok → s.oHold = some b → DataRun t a u →
        DataRun s { a with left := b :: a.left, entered := b :: a.entered } u
  | sendFull {s t u : State} {a : Account} {b : Bytes} :
      Takes .oSend s t → t.out = .full → s.oHold = some b → DataRun t a u →
        DataRun s { a with left := b :: a.left, droppedOq := a.droppedOq + 1 } u
  | giveUp {s t u : State} {a : Account} {b : Bytes} {i : Instr} :
      i = .oStop ∨ i = .stageFault .o → Takes i s t → s.oHold = some b → DataRun t a u →
        DataRun s { a with left := b :: a.left, givenUp := a.givenUp + 1 } u
  | other {s t u : State} {a : Account} {i : Instr} :
      i ≠ .pEmit → i ≠ .oSend → i ≠ .reset → (i = .oStop ∨ i = .stageFault .o → s.oHold = none) →
        (∀ tod, i = .start tod → s.running = true ∨ s.degraded = true) → Takes i s t → DataRun t a u →
        DataRun s a u

/-- The drained point (R209): no chunk, no full block, no packet is left before `OQ`. -/
abbrev Drained (s : State) : Prop :=
  s.iq = [] ∧ s.acc.length < s.cfg.blockSize ∧ s.dq = [] ∧ s.oHold = none

/-- A run of operations in the order given. -/
inductive Performs : State → List Instr → State → Prop where
  | nil (s : State) : Performs s [] s
  | cons {s t u : State} {i : Instr} {is : List Instr} :
      exec i s = .next t → Performs t is u → Performs s (i :: is) u

end Sys2Proof.Machine
end

