-- ==== Sys2Proof/Certificates/Slice0/Obligations.lean ====
section
/-! DEFINITION. The statements for the provers, each from the rules of spec/ its docstring names. A next
state is written in full (`{ s with … }`), so that each such statement is also the operation's frame:
every register, flag, counter and queue it does not name is unchanged. -/

open Sys2Proof Sys2Proof.Machine

/-! ## Encoding and the step -/

/-- What the encoder writes for a well-formed operation, the decoder reads back as that operation, with
every operand at every value. The operand bytes of a command are the model's encoding (log 2); the wire
formats are those of R60 to R72. -/
def Obligations.DecodeInvertsEncode : Prop :=
  ∀ i : Instr, WellFormed i = true → decode (encode i) = .ok i

/-- A command decodes only to the operation of R77 whose identifier is its first byte. That a command
leads with its OPID is the model's encoding (log 2). -/
def Obligations.CommandLeadsWithOpid : Prop :=
  ∀ (b : Bytes) (i : Instr), decode ⟨.command, b⟩ = .ok i → ∃ op rest, b = op :: rest ∧ opid i = some op

/-- Words written out bit by bit from R60, R61, R62, R65, R69, R119 and R121 decode to what they stand for.
That a transfer says which wire format its bytes have is the model's choice (log 3), and so are the last two,
the one-byte commands: R77 gives the identifiers 0x8D and 0x83, and no encoding of commands (log 2). -/
def Obligations.SpecWordsDecode : Prop :=
  decode ⟨.wire .headerVita, [0x18, 0x65, 0x00, 0x0E]⟩ = .ok (.wordHeaderVita ⟨1, true, false, false, 1, 2, 5, 14⟩) ∧
  decode ⟨.wire .headerListed, [0x00, 0x0E, 0x59, 0x11]⟩ = .ok (.wordHeaderListed ⟨1, true, false, false, 1, 2, 5, 14⟩) ∧
  decode ⟨.wire .trailerVita, [0xC0, 0x04, 0x00, 0x83]⟩ = .ok (.wordTrailerVita 0xC00 0x400 true 3) ∧
  decode ⟨.wire .trailerListed, [0x07, 0x40, 0x0C, 0x00]⟩ = .ok (.wordTrailerListed 0xC00 0x400 true 3) ∧
  decode ⟨.wire .classId1, [0xFF, 0xAB, 0xCD, 0xEF]⟩ = .ok (.wordClassId1 0xABCDEF) ∧
  decode ⟨.wire .triplet, [0x23, 0x4F, 0xFF]⟩ = .ok (.fieldTriplet 0x234 0xFFF) ∧
  decode ⟨.wire (.packet .vita), [0x00, 0x00, 0x00, 0x01]⟩ =
    .ok (.pktPtData ⟨.vita, false, false, false, 0, 0, 0, 1, []⟩) ∧
  decode ⟨.wire (.packet .vita), [0x18, 0x60, 0x00, 0x01]⟩ =
    .ok (.pktPtDataWithId ⟨.vita, true, false, false, 1, 2, 0, 1, []⟩) ∧
  decode ⟨.command, [0x8D]⟩ = .ok .reset ∧
  decode ⟨.command, [0x83]⟩ = .ok .pEmit

/-- A step performs the operation presented next and then, if a stop is requested and every stage is out,
lowers `RUNNING` (R199); no operation faults (R230), and one that is refused is refused by the step. Which
operation is next is the model's agenda (log 1). -/
def Obligations.StepRunsDecoded : Prop :=
  ∀ (s : State) (t : Transfer) (rest : List Transfer) (i : Instr),
    s.agenda = t :: rest → decode t = .ok i →
      (∀ u, exec i { s with agenda := rest } = .next u →
        step s = .next (if u.stopReq = true ∧ (u.pState = .off ∨ u.pState = .dead) ∧
            (u.oState = .off ∨ u.oState = .dead) ∧ (u.cState = .off ∨ u.cState = .done ∨ u.cState = .dead)
          then { u with running := false } else u)) ∧
      (∀ r, exec i { s with agenda := rest } ≠ .fault r) ∧
      (∀ r, exec i { s with agenda := rest } = .refused r → step s = .refused r)

/-- The model's choices about what is presented (log 1, log 2, log 14): with nothing in the agenda a free
transfer is performed; bytes that are no operation fault; bytes that are one have operands of the lengths and
ranges the spec gives (R72, R111, R210), so that no operation is refused for them; and a chunk longer than
`MAX_CHUNK`, for which the environment has no move (U12), is refused. -/
def Obligations.StepOfAnythingElse : Prop :=
  (∀ s : State, s.agenda = [] → step s = perform (Config.schedule s.drawn) { s with drawn := s.drawn + 1 }) ∧
  (∀ (s : State) (t : Transfer) (rest : List Transfer) (e : DecodeError),
    s.agenda = t :: rest → decode t = .error e → step s = .fault (.noSuchOperation e)) ∧
  (∀ (t : Transfer) (i : Instr), decode t = .ok i → WellFormed i = true) ∧
  ∀ (c : Chunk) (s : State), s.params.maxChunk < c.length →
    exec (.accPush c) s = .refused .chunkTooLong ∧ exec (.srcPush c) s = .refused .chunkTooLong ∧
      exec (.qTryPush (.iq c)) s = .refused .chunkTooLong

/-! ## BitField, Header, Trailer -/

/-- BF.DEC (R91): each named descriptor's value is the word shifted right by `pos[k]` and masked to the
width; a name that no descriptor has gets no value. Where two descriptors share a name the last one's
value stands: no rule speaks of repeated names, so that clause is the model's choice (log 23). -/
def Obligations.BfDecExtracts : Prop :=
  ∀ (d : List Descriptor) (w : Word) (s : State), IsLayout d →
    ∃ r : Record, exec (.bfDec d w) s = .next { s with out := .record r } ∧
      (∀ k x n, d[k]? = some x → x.name = some n →
        (∀ j y, k < j → d[j]? = some y → y.name ≠ some n) →
          recordGet r n = some ((w.toNat >>> fieldPos d k) &&& (2 ^ x.width - 1))) ∧
      ∀ n, (∀ x ∈ d, x.name ≠ some n) → recordGet r n = none

/-- BF.ENC (R92): the word holds each named value at its descriptor's position and zero bits under each
reserved descriptor. -/
def Obligations.BfEncPlaces : Prop :=
  ∀ (d : List Descriptor) (v : Record) (s : State), IsLayout d → recordCovers d v = true →
    (∀ x ∈ d, ∀ n a, x.name = some n → recordGet v n = some a → a < 2 ^ x.width) →
      ∃ w : Word, exec (.bfEnc d v) s = .next { s with out := .word w } ∧
        ∀ k x, d[k]? = some x → (w.toNat >>> fieldPos d k) % 2 ^ x.width =
          match x.name with
          | none => 0
          | some n => (recordGet v n).getD 0

/-- What the BitField codec refuses (R90, R233, D4): a list that is no layout is `E_BF_DESC` for both
operations; a value too wide for its field is `E_FIELD_RANGE`, never masked. -/
def Obligations.BfRefuses : Prop :=
  ∀ (d : List Descriptor) (w : Word) (v : Record) (s : State), recordCovers d v = true →
    (¬ IsLayout d → exec (.bfDec d w) s = .next { s with out := .error .bfDesc } ∧
      exec (.bfEnc d v) s = .next { s with out := .error .bfDesc }) ∧
    (IsLayout d → (∃ x ∈ d, ∃ n a, x.name = some n ∧ recordGet v n = some a ∧ 2 ^ x.width ≤ a) →
      exec (.bfEnc d v) s = .next { s with out := .error .fieldRange })

/-- The two laws of R92, for a layout whose names differ: decoding an encoded record gives every value
back, and encoding a decoded word gives its named fields back with the reserved bits cleared. -/
def Obligations.BfRoundTrips : Prop :=
  ∀ d : List Descriptor, IsLayout d → (d.filterMap Descriptor.name).Nodup →
    (∀ (v : Record) (w : Word), recordCovers d v = true → bfEnc d v = .ok w →
      ∃ r, bfDec d w = .ok r ∧ ∀ n, n ∈ d.filterMap Descriptor.name → recordGet r n = recordGet v n) ∧
    (∀ (w : Word) (r : Record), bfDec d w = .ok r →
      ∃ w' : Word, bfEnc d r = .ok w' ∧
        ∀ k x, d[k]? = some x → (w'.toNat >>> fieldPos d k) % 2 ^ x.width =
          if x.name = none then 0 else (w.toNat >>> fieldPos d k) % 2 ^ x.width)

/-- HDR.ENC (R93): the Header word under each layout. -/
def Obligations.HdrEncWord : Prop :=
  ∀ (h : Header) (s : State),
    let n : Nat := match s.params.layout with
    | .vita => (h.packetType.toNat <<< 28) ||| (h.hasClassId.toNat <<< 27) ||| (h.hasTrailer.toNat <<< 26)
        ||| (h.tsm.toNat <<< 24) ||| (h.tsi.toNat <<< 22) ||| (h.tsf.toNat <<< 20)
        ||| (h.count.toNat <<< 16) ||| h.size.toNat
    | .listed => (h.size.toNat <<< 16) ||| (h.count.toNat <<< 12) ||| (h.tsf.toNat <<< 10)
        ||| (h.tsi.toNat <<< 8) ||| (h.tsm.toNat <<< 7) ||| (h.hasTrailer.toNat <<< 5)
        ||| (h.hasClassId.toNat <<< 4) ||| h.packetType.toNat
    exec (.hdrEnc h) s = .next { s with out := .word (BitVec.ofNat 32 n) }

/-- HDR.DEC (R94): the eight fields under each layout, and the two inverse laws, the second with the
reserved bit cleared. -/
def Obligations.HdrDecFields : Prop :=
  (∀ (w : Word) (s : State),
    let h : Header := match s.params.layout with
    | .vita => ⟨w.extractLsb' 28 4, w.getLsbD 27, w.getLsbD 26, w.getLsbD 24, w.extractLsb' 22 2,
        w.extractLsb' 20 2, w.extractLsb' 16 4, w.extractLsb' 0 16⟩
    | .listed => ⟨w.extractLsb' 0 4, w.getLsbD 4, w.getLsbD 5, w.getLsbD 7, w.extractLsb' 8 2,
        w.extractLsb' 10 2, w.extractLsb' 12 4, w.extractLsb' 16 16⟩
    exec (.hdrDec w) s = .next { s with out := .header h }) ∧
  (∀ (l : Layout) (h : Header), hdrDec l (hdrEnc l h) = h) ∧
  ∀ (l : Layout) (w : Word), hdrEnc l (hdrDec l w) =
    w &&& (match l with | .vita => 0xFDFFFFFF | .listed => 0xFFFFFFBF)

/-- TRL.ENC (R95) and TRL.DEC (R96): the trailer word under each layout, an absent count written as zeros
with `context_en = 0`; the fields read back, no count when `context_en = 0`; and the laws: decoding inverts
encoding, and encoding inverts decoding exactly when the count bits were 0 or `context_en` was 1. -/
def Obligations.TrailerWords : Prop :=
  (∀ (t : Trailer) (s : State),
    let n : Nat := match s.params.layout with
    | .vita => (t.enables.toNat <<< 20) ||| (t.indicators.toNat <<< 8) ||| (t.contextCount.isSome.toNat <<< 7)
        ||| (t.contextCount.getD 0).toNat
    | .listed => ((t.contextCount.getD 0).toNat <<< 25) ||| (t.contextCount.isSome.toNat <<< 24)
        ||| (t.indicators.toNat <<< 12) ||| t.enables.toNat
    exec (.trlEnc t) s = .next { s with out := .word (BitVec.ofNat 32 n) }) ∧
  (∀ (w : Word) (s : State),
    let t : Trailer := match s.params.layout with
    | .vita => ⟨w.extractLsb' 20 12, w.extractLsb' 8 12,
        if w.getLsbD 7 then some (w.extractLsb' 0 7) else none⟩
    | .listed => ⟨w.extractLsb' 0 12, w.extractLsb' 12 12,
        if w.getLsbD 24 then some (w.extractLsb' 25 7) else none⟩
    exec (.trlDec w) s = .next { s with out := .trailer t }) ∧
  (∀ (l : Layout) (t : Trailer), trlDec l (trlEnc l t) = t) ∧
  ∀ (l : Layout) (w : Word), trlEnc l (trlDec l w) = w ↔
    (match l with
    | .vita => w.extractLsb' 0 7 = 0 ∨ w.getLsbD 7 = true
    | .listed => w.extractLsb' 25 7 = 0 ∨ w.getLsbD 24 = true)

/-! ## Packet codec -/

/-- CID.ENC and CID.DEC (R110, R111) byte by byte: the padding byte is sent as 0 and ignored when read. -/
def Obligations.ClassIdBytes : Prop :=
  (∀ (c : ClassId) (s : State),
    let b : Bytes := [0, c.oui.extractLsb' 16 8, c.oui.extractLsb' 8 8, c.oui.extractLsb' 0 8,
      c.infoClass.extractLsb' 8 8, c.infoClass.extractLsb' 0 8,
      c.packetClass.extractLsb' 8 8, c.packetClass.extractLsb' 0 8]
    exec (.cidEnc c) s = .next { s with out := .bytes b }) ∧
  ∀ (b0 b1 b2 b3 b4 b5 b6 b7 : Byte) (s : State),
    exec (.cidDec [b0, b1, b2, b3, b4, b5, b6, b7]) s =
      .next { s with out := .classId ⟨b1 ++ b2 ++ b3, b4 ++ b5, b6 ++ b7⟩ }

/-- TS.ENC (R112) and TS.DEC (R113): the words of a timestamp, its one error, and what the words of a
timestamp read back as. -/
def Obligations.TimestampWords : Prop :=
  (∀ (ts : Nat) (tsi tsf : BitVec 2) (s : State),
    let r : Result := if tsi ≠ 0 ∧ 2 ^ 32 ≤ ts / 10 ^ 12 then .error .tsRange
      else .bytes ((if tsi = 0 then [] else be 4 (ts / 10 ^ 12)) ++ (if tsf = 0 then [] else be 8 (ts % 10 ^ 12)))
    exec (.tsEnc ts tsi tsf) s = .next { s with out := r }) ∧
  (∀ (sec : Option Word) (frac : Option (BitVec 64)) (s : State),
    let t : Option Nat := if sec = none ∧ frac = none then none
      else some ((sec.getD 0).toNat * 10 ^ 12 + (frac.getD 0).toNat)
    exec (.tsDec sec frac) s = .next { s with out := .timestamp t }) ∧
  ∀ (ts : Nat) (b : Bytes), tsEnc ts 1 2 = .ok b →
    b.length = 12 ∧ tsDec (some (BitVec.ofNat 32 (ube (slice b 0 4)))) (some (BitVec.ofNat 64 (ube (slice b 4 8)))) = some ts

/-- PKT.SIZE (R118) of a payload of whole words. -/
def Obligations.PktSizeFormula : Prop :=
  ∀ (p : Packet) (s : State), p.data.length % 4 = 0 →
    let words := 1 + (if p.packetType = 1 then 1 else 0)
      + (if p.oui.isSome ∧ p.infoClass.isSome ∧ p.packetClass.isSome then 2 else 0)
      + (if p.tsi = 0 then 0 else 1) + (if p.tsf = 0 then 0 else 2) + p.data.length / 4
      + (if p.trailer.isSome then 1 else 0)
    exec (.pktSize p) s = .next { s with out := .nat words }

/-- PKT.ENC (R119): the six errors in the order tested, then the fields in order, each absent field with no
bytes, and the length law. -/
def Obligations.PktEncFollowsItsOrder : Prop :=
  ∀ (p : Packet) (s : State),
    let all : Prop := p.oui.isSome = true ∧ p.infoClass.isSome = true ∧ p.packetClass.isSome = true
    let noneOf : Prop := p.oui = none ∧ p.infoClass = none ∧ p.packetClass = none
    (¬ all → ¬ noneOf → exec (.pktEnc p) s = .next { s with out := .error .classId }) ∧
    (all ∨ noneOf →
      (p.packetType = 1 → p.streamId = none → exec (.pktEnc p) s = .next { s with out := .error .sidMissing }) ∧
      ((p.packetType = 1 → p.streamId ≠ none) →
        (p.tsi ≠ 0 ∨ p.tsf ≠ 0 → p.timestamp = none →
          exec (.pktEnc p) s = .next { s with out := .error .tsMissing }) ∧
        ((p.tsi ≠ 0 ∨ p.tsf ≠ 0 → p.timestamp ≠ none) →
          (∀ t, p.tsi ≠ 0 → p.timestamp = some t → 2 ^ 32 ≤ t / 10 ^ 12 →
            exec (.pktEnc p) s = .next { s with out := .error .tsRange }) ∧
          ((∀ t, p.tsi ≠ 0 → p.timestamp = some t → t / 10 ^ 12 < 2 ^ 32) →
            (p.data.length % 4 ≠ 0 → exec (.pktEnc p) s = .next { s with out := .error .payloadAlign }) ∧
            (p.data.length % 4 = 0 →
              (65535 < pktSize p → exec (.pktEnc p) s = .next { s with out := .error .sizeOverflow }) ∧
              (pktSize p ≤ 65535 → ∃ b : Bytes,
                exec (.pktEnc p) s = .next { s with out := .bytes b } ∧ b.length = 4 * pktSize p ∧
                b = be 4 (hdrEnc s.params.layout ⟨p.packetType, p.oui.isSome, p.trailer.isSome, p.tsm.getD false,
                      p.tsi, p.tsf, p.count, BitVec.ofNat 16 (pktSize p)⟩).toNat
                  ++ (if p.packetType = 1 then be 4 (p.streamId.getD 0).toNat else [])
                  ++ (if p.oui.isSome then cidEnc ⟨p.oui.getD 0, p.infoClass.getD 0, p.packetClass.getD 0⟩ else [])
                  ++ (if p.tsi = 0 then [] else be 4 (p.timestamp.getD 0 / 10 ^ 12))
                  ++ (if p.tsf = 0 then [] else be 8 (p.timestamp.getD 0 % 10 ^ 12))
                  ++ p.data
                  ++ (match p.trailer with
                    | none => []
                    | some t => be 4 (trlEnc s.params.layout t).toNat)))))))

/-- PKT.DEC refuses the four kinds of byte sequence of R121, in the order of R120, and nothing else: any
other bytes it answers with the Packet whose fields `PktDecFields` states. -/
def Obligations.PktDecRefusals : Prop :=
  ∀ (b : Bytes) (s : State),
    let h := hdrDec s.params.layout (BitVec.ofNat 32 (ube (slice b 0 4)))
    let words := 1 + (if h.packetType = 1 then 1 else 0) + 2 * h.hasClassId.toNat + (if h.tsi = 0 then 0 else 1)
      + (if h.tsf = 0 then 0 else 2) + h.hasTrailer.toNat
    (b.length < 4 → exec (.pktDec b) s = .next { s with out := .error .decShort }) ∧
    (4 ≤ b.length → b.length % 4 ≠ 0 → exec (.pktDec b) s = .next { s with out := .error .decUnaligned }) ∧
    (4 ≤ b.length → b.length % 4 = 0 → 4 * h.size.toNat ≠ b.length →
      exec (.pktDec b) s = .next { s with out := .error .decSizeMismatch }) ∧
    (4 ≤ b.length → b.length % 4 = 0 → 4 * h.size.toNat = b.length → h.size.toNat < words →
      exec (.pktDec b) s = .next { s with out := .error .decTruncated }) ∧
    (4 ≤ b.length → b.length % 4 = 0 → 4 * h.size.toNat = b.length → words ≤ h.size.toNat →
      ∃ p, pktDec s.params.layout b = .ok p ∧ exec (.pktDec b) s = .next { s with out := .packet p })

/-- What PKT.DEC returns for bytes it accepts (R120): every field at its offset of R68. -/
def Obligations.PktDecFields : Prop :=
  ∀ (l : Layout) (b : Bytes) (p : Packet), pktDec l b = .ok p →
    let h := hdrDec l (BitVec.ofNat 32 (ube (slice b 0 4)))
    let S := if p.packetType = 1 then 1 else 0
    let C := h.hasClassId.toNat
    let I := if p.tsi = 0 then 0 else 1
    let F := if p.tsf = 0 then 0 else 1
    let T := h.hasTrailer.toNat
    let P := 4 + 4 * S + 8 * C + 4 * I + 8 * F
    p.packetType = h.packetType ∧ p.tsi = h.tsi ∧ p.tsf = h.tsf ∧ p.count = h.count ∧
    p.tsm = (if p.packetType = 4 ∨ p.packetType = 5 then some h.tsm else none) ∧
    p.streamId = (if S = 1 then some (BitVec.ofNat 32 (ube (slice b 4 4))) else none) ∧
    p.oui = (if C = 1 then some (BitVec.ofNat 24 (ube (slice b (5 + 4 * S) 3))) else none) ∧
    p.infoClass = (if C = 1 then some (BitVec.ofNat 16 (ube (slice b (8 + 4 * S) 2))) else none) ∧
    p.packetClass = (if C = 1 then some (BitVec.ofNat 16 (ube (slice b (10 + 4 * S) 2))) else none) ∧
    p.timestamp = (if I = 0 ∧ F = 0 then none else
      some ((if I = 1 then ube (slice b (4 + 4 * S + 8 * C) 4) * 10 ^ 12 else 0)
        + (if F = 1 then ube (slice b (4 + 4 * S + 8 * C + 4 * I) 8) else 0))) ∧
    P + 4 * T ≤ b.length ∧ p.data = slice b P (b.length - 4 * T - P) ∧
    p.trailer = (if T = 1 then some (trlDec l (BitVec.ofNat 32 (ube (slice b (b.length - 4) 4)))) else none)

/-- The first round-trip law of R122: a self-consistent Packet (R114) is given back by decoding its
encoding, under either layout, and the encoding has four bytes per word of its size. -/
def Obligations.PacketRoundTrip : Prop :=
  ∀ (l : Layout) (p : Packet), SelfConsistent p →
    ∃ b, pktEnc l p = .ok b ∧ b.length = 4 * pktSize p ∧ pktDec l b = .ok p

/-- The second law of R122, for every byte sequence PKT.DEC accepts: encoding what it decodes to fails with
`E_TS_RANGE` exactly when the timestamp's seconds, a fraction of `PS` or more carried into them, reach 2^32,
and otherwise gives the bytes back except for the reserved Header bit, the `tsm` bit of a packet that is no
context packet, the class-identifier padding, the count bits of a trailer without a count (all cleared) and
such a fraction (carried, or its seconds lost without an integer word). Where none of these arises the bytes
come back unchanged. -/
def Obligations.AcceptedBytesReencode : Prop :=
  ∀ (l : Layout) (b : Bytes) (p : Packet), pktDec l b = .ok p →
    let w : Word := BitVec.ofNat 32 (ube (slice b 0 4))
    let h := hdrDec l w
    let S := if h.packetType = 1 then 4 else 0
    let C := if h.hasClassId then 8 else 0
    let I := if h.tsi = 0 then 0 else 4
    let F := if h.tsf = 0 then 0 else 8
    let T := if h.hasTrailer then 4 else 0
    let sec := ube (slice b (4 + S + C) I)
    let frac := ube (slice b (4 + S + C + I) F)
    let P := 4 + S + C + I + F
    let kept : Word := w &&& (match l with | .vita => 0xFDFFFFFF | .listed => 0xFFFFFFBF)
      &&& (if h.packetType = 4 ∨ h.packetType = 5 then 0xFFFFFFFF
        else match l with | .vita => 0xFEFFFFFF | .listed => 0xFFFFFF7F)
    let x : Word := BitVec.ofNat 32 (ube (slice b (b.length - 4) 4))
    let tail : Word := match l with
      | .vita => if x.getLsbD 7 then x else x &&& 0xFFFFFF80
      | .listed => if x.getLsbD 24 then x else x &&& 0x01FFFFFF
    pktEnc l p = (if h.tsi ≠ 0 ∧ 2 ^ 32 ≤ sec + frac / 10 ^ 12 then .error .tsRange
      else .ok (be 4 kept.toNat ++ slice b 4 S ++ (if h.hasClassId then 0 :: slice b (5 + S) 7 else [])
        ++ (if h.tsi = 0 then [] else be 4 (sec + frac / 10 ^ 12))
        ++ (if h.tsf = 0 then [] else be 8 (frac % 10 ^ 12))
        ++ slice b P (b.length - T - P) ++ (if h.hasTrailer then be 4 tail.toNat else []))) ∧
    (CanonicalWire l b p → pktEnc l p = .ok b)

/-! ## Sample packer -/

/-- PACK12 (R141): three bytes per pair, the low 12 bits of `first`, then those of `second`. -/
def Obligations.Pack12Triplets : Prop :=
  ∀ (xs : Chunk) (s : State), ∃ b : Bytes, exec (.pack12 xs) s = .next { s with out := .bytes b } ∧
    b.length = 3 * xs.length ∧
    ∀ k x, xs[k]? = some x → slice b (3 * k) 3 =
      [x.first.extractLsb' 4 8, x.first.extractLsb' 0 4 ++ x.second.extractLsb' 8 4, x.second.extractLsb' 0 8]

/-- UNPACK12 (R142): two values per whole group of three bytes and one more for a partial group, missing
bytes counting as zero. -/
def Obligations.Unpack12Values : Prop :=
  ∀ (b : Bytes) (s : State), ∃ vs : List (BitVec 12), exec (.unpack12 b) s = .next { s with out := .values vs } ∧
    vs.length = 2 * (b.length / 3) + (if b.length % 3 = 0 then 0 else 1) ∧
    ∀ k, 3 * k < b.length →
      let combined := b.getD (3 * k) 0 ++ b.getD (3 * k + 1) 0 ++ b.getD (3 * k + 2) 0
      vs[2 * k]? = some (combined.extractLsb' 12 12) ∧
        (3 * k + 3 ≤ b.length → vs[2 * k + 1]? = some (combined.extractLsb' 0 12))

/-- The round trips of R143: unpacking gives the low 12 bits of every component in order, and packing the
pairs made from unpacked whole groups gives the bytes back. -/
def Obligations.PackerRoundTrips : Prop :=
  (∀ xs : Chunk, (pack12 xs).length = 3 * xs.length ∧
    unpack12 (pack12 xs) = xs.flatMap fun x => [x.first.setWidth 12, x.second.setWidth 12]) ∧
  ∀ (b : Bytes) (xs : Chunk), b.length % 3 = 0 →
    unpack12 b = xs.flatMap (fun x => [x.first.setWidth 12, x.second.setWidth 12]) → pack12 xs = b

/-! ## Accumulator -/

/-- ACC.PUSH of a chunk of at most `MAX_CHUNK` pairs, no full block pending, appends it and stays within
`ACC_CAP = B - 1 + MAX_CHUNK` (R151, R5); ACC.EMIT with a full block pending returns the oldest `B` pairs and
keeps the rest in order (R152). -/
def Obligations.AccumulatorSteps : Prop :=
  ∀ s : State,
    (∀ c : Chunk, c.length ≤ s.params.maxChunk → s.acc.length < s.cfg.sampleCount.toNat →
      exec (.accPush c) s = .next { s with acc := s.acc ++ c, out := .done } ∧
        (s.acc ++ c).length ≤ s.cfg.sampleCount.toNat - 1 + s.params.maxChunk) ∧
    (s.cfg.sampleCount.toNat ≤ s.acc.length → exec .accEmit s = .next { s with
      acc := s.acc.drop s.cfg.sampleCount.toNat, out := .pairs (s.acc.take s.cfg.sampleCount.toNat) })

/-- The law of R153: over any run of the accumulator from empty, the blocks are exactly `B` long and with
what is pending give every pushed pair once, in order; when no emission is left to perform, their number
and the remainder are the quotient and remainder of the total by `B`. -/
def Obligations.AccumulatorLaw : Prop :=
  ∀ (s t : State) (chunks blocks : List Chunk), AccumulatorRun s chunks blocks t → s.acc = [] →
    blocks.flatten ++ t.acc = chunks.flatten ∧ (∀ b ∈ blocks, b.length = s.cfg.sampleCount.toNat) ∧
    (t.acc.length < s.cfg.sampleCount.toNat →
      blocks.length = chunks.flatten.length / s.cfg.sampleCount.toNat ∧
        t.acc.length = chunks.flatten.length % s.cfg.sampleCount.toNat)

/-! ## Rate limiter and meter -/

/-- RL.DUE (R160) for each limiter with its interval of R159, and RL.MARK (R161). The context limiter's
denominator is the signed `CFG_CTX_FREQ`. -/
def Obligations.LimiterDueAndMark : Prop :=
  ∀ s : State,
    let outDue : Bool := match s.rlOutLast with
      | none => true
      | some t => decide ((s.cfg.sampleCount.toNat : Int) * s.params.tickHz
          ≤ ((s.now : Int) - t) * s.cfg.sampleRate.toNat)
    let ctxDue : Bool := match s.rlCtxLast with
      | none => true
      | some t => decide ((s.params.tickHz : Int) ≤ ((s.now : Int) - t) * s.cfg.ctxFreq.toInt)
    exec (.rlDue .out) s = .next { s with out := .bool outDue } ∧
    exec (.rlDue .ctx) s = .next { s with out := .bool ctxDue } ∧
    exec (.rlMark .out) s = .next { s with rlOutLast := some s.now, out := .done } ∧
    exec (.rlMark .ctx) s = .next { s with rlCtxLast := some s.now, out := .done }

/-- RL.CALL of an operation when due (R162): the operation's own effect and result, and the mark, in one
step. A limiter wraps the operations of the stage that owns it (R250); which of them can be wrapped is the
model's reading (log 16). -/
def Obligations.RlCallPerformsAndMarks : Prop :=
  ∀ s : State,
    let markedOut (u : State) : State := { u with rlOutLast := some s.now }
    let markedCtx (u : State) : State := { u with rlCtxLast := some s.now }
    (s.due .out = true →
      (∀ pkt, ∃ u, exec (.qTryPush (.oq pkt)) s = .next u ∧
        exec (.rlCall .out (.tryPush pkt)) s = .next (markedOut u)) ∧
      (s.dq ≠ [] → ∃ u, exec (.qPop .dq) s = .next u ∧ exec (.rlCall .out .pop) s = .next (markedOut u)) ∧
      (∀ n, ∃ u, exec (.mtrObs n) s = .next u ∧ exec (.rlCall .out (.mtrObs n)) s = .next (markedOut u)) ∧
      (∀ pkt, s.oHold = some pkt → ∃ u, exec (.qTryPush (.oq pkt)) s = .next u ∧
        exec (.rlCall .out .pushHold) s = .next (markedOut u))) ∧
    (s.due .ctx = true →
      (∀ pkt, ∃ u, exec (.qTryPush (.oq pkt)) s = .next u ∧
        exec (.rlCall .ctx (.tryPush pkt)) s = .next (markedCtx u)) ∧
      (∃ u, exec .ctxPayload s = .next u ∧ exec (.rlCall .ctx .ctxPayload) s = .next (markedCtx u)) ∧
      (∀ tod, ∃ u, exec (.frameCtx tod) s = .next u ∧
        exec (.rlCall .ctx (.frameCtx tod)) s = .next (markedCtx u)) ∧
      (∀ p, ∃ u, exec (.pktEnc p) s = .next u ∧ exec (.rlCall .ctx (.pktEnc p)) s = .next (markedCtx u)) ∧
      ∀ tod, ∃ u, exec (.rlCall .ctx (.buildAndPush tod)) s = .next (markedCtx u) ∧
        ((∃ (b : Bytes) (v : State), exec (.frameCtx tod) s = .next v ∧ v.out = .bytes b ∧
            exec (.qTryPush (.oq b)) v = .next u) ∨
          ∃ (e : ErrCode) (v : State), exec (.frameCtx tod) s = .next { v with out := .error e } ∧
            u = { v with
              encFail := true, errCode := if v.errCode = 0 then e.code else v.errCode
              errOp := if v.errCode = 0 then 0x63 else v.errOp, out := .error e }))

/-- The law of R163: over any run in which one limiter's calls, by RL.CALL or by the step of the stage that
makes them (O.SEND, C.EMIT), are performed at the listed values of `NOW`, successive calls are at least the interval apart, so `n` calls span at least `n - 1` intervals; and neither
limiter reads the other's register. -/
def Obligations.LimiterSpacing : Prop :=
  ∀ (l : Limiter) (s : State) (times : List Nat), LimiterRun l s times →
    (∀ k (t u : Nat), times[k]? = some t → times[k + 1]? = some u →
      (s.limiterNum l : Int) * s.params.tickHz ≤ ((u : Int) - t) * s.limiterDen l) ∧
    (∀ t u : Nat, times.head? = some t → times.getLast? = some u →
      ((times.length : Int) - 1) * s.limiterNum l * s.params.tickHz ≤ ((u : Int) - t) * s.limiterDen l) ∧
    ∀ v, ({ s with rlCtxLast := v } : State).due .out = s.due .out ∧
      ({ s with rlOutLast := v } : State).due .ctx = s.due .ctx

/-- MTR.OBS (R166) when every exact value fits its register: the first observation opens the window, a
later one counts its bytes and sets the instantaneous rate, and the `MTR_N`-th reports and starts anew. -/
def Obligations.MeterObserves : Prop :=
  ∀ (n : Nat) (s : State),
    let seen := s.mtr.bytes.toNat + (if s.mtr.last = none then 0 else n)
    let start := if s.mtr.last = none then s.now else s.mtr.winStart
    s.mtr.cnt.toNat + 1 < 2 ^ 32 → seen < 2 ^ 64 →
    (∀ t, s.mtr.last = some t → t < s.now → n * s.params.tickHz / (s.now - t) < 2 ^ 64) →
    (start < s.now → seen * s.params.tickHz / (s.now - start) < 2 ^ 64) →
    ∃ m : Meter, exec (.mtrObs n) s = .next { s with mtr := m, drawn := s.drawn + 1, out := .done } ∧
      m.last = some s.now ∧
      (m.inst.toNat = match s.mtr.last with
        | none => s.mtr.inst.toNat
        | some t => if t < s.now then n * s.params.tickHz / (s.now - t) else s.mtr.inst.toNat) ∧
      (s.mtr.cnt.toNat + 1 < s.params.mtrN →
        m.cnt.toNat = s.mtr.cnt.toNat + 1 ∧ m.bytes.toNat = seen ∧ m.winStart = start ∧
          m.rate = s.mtr.rate ∧ m.reports = s.mtr.reports) ∧
      (s.params.mtrN ≤ s.mtr.cnt.toNat + 1 →
        m.cnt = 0 ∧ m.bytes = 0 ∧ m.winStart = s.now ∧
          m.reports.toNat = min (s.mtr.reports.toNat + 1) (2 ^ 32 - 1) ∧
          m.rate.toNat = if start < s.now then seen * s.params.tickHz / (s.now - start) else s.mtr.rate.toNat)

/-- Nothing reads the meter but MTR.OBS and the host's register reads (R167): with another meter, every
other operation does exactly the same to everything else. -/
def Obligations.MeterIsUnread : Prop :=
  ∀ (i : Instr) (s : State) (m : Meter), (∀ r, i ≠ .regRead r) →
    match exec i s with
    | .next t => ∃ m', exec i { s with mtr := m } = .next { t with mtr := m' }
    | .fault r => exec i { s with mtr := m } = .fault r
    | .refused r => exec i { s with mtr := m } = .refused r

/-! ## Framer -/

/-- TS.BLOCK (R176) and the laws of the timestamp sequence (R177). -/
def Obligations.BlockTimes : Prop :=
  ∀ s : State, s.cfg.sampleRate ≠ 0 →
    let B := s.cfg.sampleCount.toNat
    let R := s.cfg.sampleRate.toNat
    (∀ k, exec (.tsBlock k) s = .next { s with out := .nat (s.t0.toNat + k.toNat * B * 10 ^ 12 / R) }) ∧
    (∀ k, s.blockTime k ≤ s.blockTime (k + 1) ∧
      (R ≤ B * 10 ^ 12 → s.blockTime k < s.blockTime (k + 1)) ∧
      (s.blockTime (k + 1) - s.blockTime k = B * 10 ^ 12 / R ∨
        s.blockTime (k + 1) - s.blockTime k = B * 10 ^ 12 / R + 1)) ∧
    ((∃ c, ∀ k, s.blockTime (k + 1) - s.blockTime k = c) ↔ R ∣ B * 10 ^ 12)

/-- FRAME.DATA (R180): the Packet built from the data descriptors, and `SEQ` and `BLK_IDX` advanced whether
or not it can be encoded. R180's operand is a block of exactly `B` pairs; that a block of another length is
framed in the same way is the model's choice (log 24). -/
def Obligations.FrameDataBuilds : Prop :=
  ∀ (blk : Chunk) (s : State), s.cfg.sampleRate ≠ 0 →
    let f := s.cfg.dataFmt
    let pt := f.extractLsb' 0 4
    let p : Packet :=
      { packetType := pt, tsi := f.extractLsb' 4 2, tsf := f.extractLsb' 6 2, tsm := none, count := s.seq
        streamId := if pt = 1 then some s.cfg.dataSid else none
        timestamp := some (s.t0.toNat
          + s.blkIdx.toNat * s.cfg.sampleCount.toNat * 10 ^ 12 / s.cfg.sampleRate.toNat)
        oui := if f.getLsbD 9 then some (s.cfg.dataOui.extractLsb' 0 24) else none
        infoClass := if f.getLsbD 9 then some (s.cfg.dataClass.extractLsb' 16 16) else none
        packetClass := if f.getLsbD 9 then some (s.cfg.dataClass.extractLsb' 0 16) else none
        data := pack12 blk
        trailer := if f.getLsbD 8 then
            some ⟨s.cfg.dataTrailer.extractLsb' 20 12, s.cfg.dataTrailer.extractLsb' 8 12,
              if s.cfg.dataTrailer.getLsbD 7 then some (s.cfg.dataTrailer.extractLsb' 0 7) else none⟩
          else none }
    exec (.frameData blk) s = .next { s with
      seq := s.seq + 1, blkIdx := s.blkIdx + 1
      out := match pktEnc s.params.layout p with
        | .ok b => .bytes b
        | .error e => .error e }

/-- CTX.PAYLOAD (R182) with every offset at most 44: 48 bytes, each the template's but those of the three
fields, substituted in the rule's order, so that where ranges overlap the later one stands; under the offsets
that START accepts, each field whole in its place. -/
def Obligations.CtxPayloadSubstitutes : Prop :=
  ∀ s : State,
    let B := offBw s.cfg.ctxOff
    let F := offFreq s.cfg.ctxOff
    let R := offSr s.cfg.ctxOff
    B ≤ 44 → F ≤ 44 → R ≤ 44 →
      ∃ b : Bytes, exec .ctxPayload s = .next { s with drawn := s.drawn + 1, out := .bytes b } ∧
        b.length = 48 ∧
        (∀ k, k < 48 → b[k]? = some (
          if R ≤ k ∧ k < R + 4 then (be 4 s.cfg.sampleRate.toNat).getD (k - R) 0
          else if F ≤ k ∧ k < F + 4 then (be 4 s.cfg.frequency.toNat).getD (k - F) 0
          else if B ≤ k ∧ k < B + 4 then (be 4 s.cfg.bandwidth.toNat).getD (k - B) 0
          else s.cfg.templateByte k)) ∧
        (OffsetsLegal s.cfg.ctxOff → slice b B 4 = be 4 s.cfg.bandwidth.toNat ∧
          slice b F 4 = be 4 s.cfg.frequency.toNat ∧ slice b R 4 = be 4 s.cfg.sampleRate.toNat)

/-- FRAME.CTX (R183): the Packet built from the context descriptors and the wall clock, and `CTX_SEQ`
advanced unless `SEQ_FIXED`. -/
def Obligations.FrameCtxBuilds : Prop :=
  ∀ (tod : BitVec 96) (s : State),
    let f := s.cfg.ctxFmt
    let pt := f.extractLsb' 0 4
    let p : Packet :=
      { packetType := pt, tsi := f.extractLsb' 4 2, tsf := f.extractLsb' 6 2
        tsm := if f.getLsbD 10 then some (f.getLsbD 11) else none
        count := if f.getLsbD 12 then 0 else s.ctxSeq
        streamId := if pt = 1 then some s.cfg.ctxSid else none
        timestamp := some tod.toNat
        oui := if f.getLsbD 9 then some (s.cfg.ctxOui.extractLsb' 0 24) else none
        infoClass := if f.getLsbD 9 then some (s.cfg.ctxClass.extractLsb' 16 16) else none
        packetClass := if f.getLsbD 9 then some (s.cfg.ctxClass.extractLsb' 0 16) else none
        data := s.contextPayload
        trailer := if f.getLsbD 8 then
            some ⟨s.cfg.ctxTrailer.extractLsb' 20 12, s.cfg.ctxTrailer.extractLsb' 8 12,
              if s.cfg.ctxTrailer.getLsbD 7 then some (s.cfg.ctxTrailer.extractLsb' 0 7) else none⟩
          else none }
    exec (.frameCtx tod) s = .next { s with
      ctxSeq := if f.getLsbD 12 then s.ctxSeq else s.ctxSeq + 1
      drawn := s.drawn + 1
      out := match pktEnc s.params.layout p with
        | .ok b => .bytes b
        | .error e => .error e }

/-- In a started VRTB the only encoding error a stage can meet is `E_TS_RANGE` (R180, R183, R236): START's
checks exclude the rest for a block of `B` pairs, and a context packet never has another. -/
def Obligations.OnlyTimestampsFailInARun : Prop :=
  ∀ (s : State),
    (∀ (blk : Chunk) (e : ErrCode), s.cfg.startError = none → blk.length = s.cfg.sampleCount.toNat →
      pktEnc s.params.layout (s.dataPacket blk) = .error e → e = .tsRange) ∧
    ∀ (tod : BitVec 96) (e : ErrCode), pktEnc s.params.layout (s.contextPacket tod) = .error e → e = .tsRange

/-- Where the spec states an effect but no value, the operation completes with a free value, about which
nothing is said: the model's choice (log 10, log 11, log 12, log 13, log 23). BF.ENC of a record that lacks a
named value tests the list first, then the values given, and then places those. -/
def Obligations.OpenValuesStillComplete : Prop :=
  ∀ s : State,
    (∀ p : Packet, p.data.length % 4 ≠ 0 → ∃ n,
      exec (.pktSize p) s = .next { s with drawn := s.drawn + 1, out := .nat n }) ∧
    (s.cfg.sampleRate = 0 →
      (∀ k, ∃ n, exec (.tsBlock k) s = .next { s with out := .nat n }) ∧
      ∀ blk, ∃ r, exec (.frameData blk) s =
        .next { s with seq := s.seq + 1, blkIdx := s.blkIdx + 1, out := r }) ∧
    (∃ b : Bytes, exec .ctxPayload s = .next { s with drawn := s.drawn + 1, out := .bytes b } ∧ b.length = 48 ∧
      ∀ k, k < 48 →
        (∀ o ∈ [offBw s.cfg.ctxOff, offFreq s.cfg.ctxOff, offSr s.cfg.ctxOff], k < o ∨ o + 4 ≤ k) →
          b[k]? = some (s.cfg.templateByte k)) ∧
    (∀ b, ∃ bw f sr whole, exec (.fieldCtxPayload b) s =
      .next { s with drawn := s.drawn + 1, out := .ctxFields bw f sr whole }) ∧
    (∀ n, ∃ m, exec (.mtrObs n) s = .next { s with mtr := m, drawn := s.drawn + 1, out := .done }) ∧
    ∀ (d : List Descriptor) (v : Record), recordCovers d v = false →
      let tooWide : Prop := ∃ x ∈ d, ∃ n a, x.name = some n ∧ recordGet v n = some a ∧ 2 ^ x.width ≤ a
      (¬ IsLayout d → exec (.bfEnc d v) s = .next { s with drawn := s.drawn + 1, out := .error .bfDesc }) ∧
      (IsLayout d → tooWide →
        exec (.bfEnc d v) s = .next { s with drawn := s.drawn + 1, out := .error .fieldRange }) ∧
      (IsLayout d → ¬ tooWide → ∃ w : Word,
        exec (.bfEnc d v) s = .next { s with drawn := s.drawn + 1, out := .word w } ∧
          ∀ k x, d[k]? = some x →
            (x.name = none → (w.toNat >>> fieldPos d k) % 2 ^ x.width = 0) ∧
            ∀ n a, x.name = some n → recordGet v n = some a → (w.toNat >>> fieldPos d k) % 2 ^ x.width = a)

/-! ## Queues -/

/-- Q.TRYPUSH (R195): the item is appended below the capacity; otherwise it is dropped, and a drop at `DQ`
or `OQ` sets the flag and counts. SRC.PUSH while `RUNNING` (R211): appended below the capacity; on a full
queue, under the policy `drop`, lost with nothing recorded. The answers of SRC.PUSH, and Q.TRYPUSH on `IQ`
with its uncounted loss, are the model's (log 26); so is any byte sequence as a packet (log 28). -/
def Obligations.PushesAppendOrDrop : Prop :=
  ∀ s : State,
    (∀ b, exec (.qTryPush (.dq b)) s = .next (if s.dq.length < s.cfg.dqCap.toNat then
        { s with dq := s.dq ++ [b], out := .ok }
      else { s with dropDq := true, dropDqCnt := BitVec.ofNat 32 (min (s.dropDqCnt.toNat + 1) (2 ^ 32 - 1)), out := .full })) ∧
    (∀ b, exec (.qTryPush (.oq b)) s = .next (if s.oq.length < s.params.oqCap then
        { s with oq := s.oq ++ [b], out := .ok }
      else { s with dropOq := true, dropOqCnt := BitVec.ofNat 32 (min (s.dropOqCnt.toNat + 1) (2 ^ 32 - 1)), out := .full })) ∧
    ∀ c, c.length ≤ s.params.maxChunk →
      exec (.qTryPush (.iq c)) s = .next (if s.iq.length < s.params.iqCap then
        { s with iq := s.iq ++ [c], out := .ok } else { s with out := .full }) ∧
      (s.running = true → s.iq.length < s.params.iqCap →
        exec (.srcPush c) s = .next { s with iq := s.iq ++ [c], out := .ok }) ∧
      (s.running = true → s.params.iqCap ≤ s.iq.length → s.params.inPushPolicy = .drop →
        exec (.srcPush c) s = .next { s with out := .full })

/-- Q.POP (R196) and SNK.POP (R212): the oldest item leaves a non-empty queue. -/
def Obligations.PopTakesOldest : Prop :=
  ∀ s : State,
    (∀ b rest, s.dq = b :: rest → exec (.qPop .dq) s = .next { s with dq := rest, out := .bytes b }) ∧
    (∀ b rest, s.oq = b :: rest → exec (.qPop .oq) s = .next { s with oq := rest, out := .bytes b }) ∧
    (∀ c rest, s.iq = c :: rest → exec (.qPop .iq) s = .next { s with iq := rest, out := .pairs c }) ∧
    ∀ b rest, s.oq = b :: rest → exec .snkPop s = .next { s with oq := rest, out := .bytes b }

/-- Any operation leaves each queue as it was, or with one item added at the end, or with its oldest item
gone, or (START and RESET alone) empty (R45, R48). Over any stretch of a run of the agents (R209; log 15, log
25): packets leave stage O in the order P.EMIT queued them, drops take some out and reorder nothing (R48); every
block framed advanced `BLK_IDX` and was queued, dropped and counted, or failed and flagged; every packet that
left stage O entered `OQ`, was dropped and counted, or was given up by O.STOP or a fault. At a drained point
(R209 b), from an empty start, every block framed has therefore entered `OQ` or been counted as dropped or
failed, but for those given up, and with no stop requested stages P and O have no enabled step. -/
def Obligations.QueuesAreFifo : Prop :=
  (∀ (s t : State) (a : Account), DataRun s a t → HoldMatchesState s →
    s.oHold.toList ++ s.dq ++ a.queued = a.left ++ t.oHold.toList ++ t.dq ∧
    a.entered.Sublist a.left ∧ a.entered.length + a.droppedOq + a.givenUp = a.left.length ∧
    t.blkIdx.toNat = (s.blkIdx.toNat + a.framed) % 2 ^ 64 ∧
    t.dropDqCnt.toNat = min (s.dropDqCnt.toNat + a.droppedDq) (2 ^ 32 - 1) ∧
    min (s.dropOqCnt.toNat + a.droppedOq) (2 ^ 32 - 1) ≤ t.dropOqCnt.toNat ∧
    (0 < a.failed → t.encFail = true) ∧
    (Drained t →
      (s.oHold = none → s.dq = [] → a.left = a.queued ∧
        a.framed = a.entered.length + a.droppedOq + a.givenUp + a.droppedDq + a.failed) ∧
      (t.stopReq = false → ∀ i, agentOf i = some (.stage .p) ∨ agentOf i = some (.stage .o) → ¬ Enabled i t))) ∧
  ∀ (i : Instr) (s t : State), exec i s = .next t →
    (t.iq = s.iq ∨ (∃ c, t.iq = s.iq ++ [c]) ∨ (∃ c, s.iq = c :: t.iq) ∨
      (t.iq = [] ∧ (i = .reset ∨ ∃ tod, i = .start tod))) ∧
    (t.dq = s.dq ∨ (∃ b, t.dq = s.dq ++ [b]) ∨ (∃ b, s.dq = b :: t.dq) ∨
      (t.dq = [] ∧ (i = .reset ∨ ∃ tod, i = .start tod))) ∧
    (t.oq = s.oq ∨ (∃ b, t.oq = s.oq ++ [b]) ∨ (∃ b, s.oq = b :: t.oq) ∨
      (t.oq = [] ∧ (i = .reset ∨ ∃ tod, i = .start tod)))

/-! ## Host commands -/

/-- START (R198): ignored while running or degraded; otherwise the first of the seven checks that fails is
reported and nothing else changes; otherwise every run register is fresh, `T0` is the wall clock and the
stages run. -/
def Obligations.StartFollowsItsChecks : Prop :=
  ∀ (tod : BitVec 96) (s : State),
    let f := s.cfg.dataFmt
    let words := 1 + (if f.extractLsb' 0 4 = 1 then 1 else 0) + 2 * (f.getLsbD 9).toNat
      + (if f.extractLsb' 4 2 = 0 then 0 else 1) + 2 * (if f.extractLsb' 6 2 = 0 then 0 else 1)
      + 3 * s.cfg.sampleCount.toNat / 4 + (f.getLsbD 8).toNat
    (s.running = true ∨ s.degraded = true → exec (.start tod) s = .next { s with out := .done }) ∧
    (s.running = false → s.degraded = false →
      let failed (e : ErrCode) : Prop := exec (.start tod) s =
        .next { s with cfgErr := true, errCode := e.code, errOp := 0x80, out := .error e }
      if s.cfg.bitRes ≠ 12 then failed .cfgBitRes
      else if s.cfg.sampleRate = 0 then failed .cfgSampleRate
      else if s.cfg.sampleCount = 0 ∨ s.cfg.sampleCount.toNat % 4 ≠ 0 then failed .cfgBlockSize
      else if s.cfg.dqCap = 0 then failed .cfgQueueCap
      else if f >>> 10 ≠ 0 ∨ s.cfg.ctxFmt >>> 13 ≠ 0 ∨ s.cfg.dataOui >>> 24 ≠ 0 ∨ s.cfg.ctxOui >>> 24 ≠ 0
          ∨ s.cfg.ctxOff &&& 0xFFC0C0C0 ≠ 0 then failed .cfgReserved
      else if 65535 < words then failed .sizeOverflow
      else if 0 < s.cfg.ctxFreq.toInt ∧ ¬ OffsetsLegal s.cfg.ctxOff then failed .cfgCtxTemplate
      else exec (.start tod) s = .next { s with
        cfgErr := false, errCode := 0, errOp := 0
        iq := [], dq := [], oq := [], acc := []
        blkIdx := 0, seq := 0, ctxSeq := 0, t0 := tod
        oHold := none, rlOutLast := none, rlCtxLast := none
        mtr := ⟨0, none, 0, 0, 0, 0, 0⟩
        dropDqCnt := 0, dropOqCnt := 0, decFailCnt := 0
        dropDq := false, dropOq := false, decFail := false, encFail := false, stopReq := false
        pState := .run, oState := .wait, cState := .run, running := true, out := .done })

/-- STOP and the three exits (R199): STOP raises the request while running; with it raised, each stage in a
running state leaves, O without its held packet; and with all three stages running, the steps that perform
the exits, in each of the six orders, leave `RUNNING` at 0 and the queues as they were. The exits stand
first in the agenda (log 1). -/
def Obligations.StopEndsTheRun : Prop :=
  ∀ s : State,
    exec .stop s = .next (if s.running then { s with stopReq := true, out := .done } else { s with out := .done }) ∧
    (s.stopReq = true → s.pState = .run → exec .pStop s = .next { s with pState := .off, out := .done }) ∧
    (s.stopReq = true → s.oState = .wait ∨ s.oState = .holding →
      exec .oStop s = .next { s with oHold := none, oState := .off, out := .done }) ∧
    (s.stopReq = true → s.cState = .run → exec .cStop s = .next { s with cState := .off, out := .done }) ∧
    ∀ (a b c : Instr) (rest : List Transfer), s.stopReq = true → s.pState = .run →
      (s.oState = .wait ∨ s.oState = .holding) → s.cState = .run → [a, b, c].Perm [.pStop, .oStop, .cStop] →
        s.agenda = encode a :: encode b :: encode c :: rest →
          ∃ u v w, step s = .next u ∧ step u = .next v ∧ step v = .next w ∧ u.running = s.running ∧
            v.running = s.running ∧ w = { s with
              running := false, pState := .off, oState := .off, cState := .off, oHold := none
              agenda := rest, out := .done }

/-- HOST.DEC (R214): PKT.DEC's answer, and on a failure the flag, the counter and the first error recorded;
nothing else changes. -/
def Obligations.HostDecRecords : Prop :=
  ∀ (b : Bytes) (s : State),
    (∀ p, pktDec s.params.layout b = .ok p → exec (.hostDec b) s = .next { s with out := .packet p }) ∧
    ∀ e, pktDec s.params.layout b = .error e → exec (.hostDec b) s = .next { s with
      decFail := true, decFailCnt := BitVec.ofNat 32 (min (s.decFailCnt.toNat + 1) (2 ^ 32 - 1))
      errCode := if s.errCode = 0 then e.code else s.errCode
      errOp := if s.errCode = 0 then 0x26 else s.errOp, out := .error e }

/-- RESET (R260), and the state after reset (R34): every register of VRTB has its reset value, in any state;
`NOW` is not touched. That the parameters, the agenda and the counter of draws are kept, and that the last
result is `done`, is the model's choice: they are no state of VRTB (log 1, log 5, log 6, log 8, log 9). -/
def Obligations.ResetClearsEverything : Prop :=
  ∀ s : State, ∃ t, exec .reset s = .next t ∧
    t.params = s.params ∧ t.now = s.now ∧ t.agenda = s.agenda ∧ t.drawn = s.drawn ∧ t.out = .done ∧
    ∀ u ∈ [t, State.reset],
      u.cfg = ⟨0, 0, 0, 0, 0, 0, 0, 0, 0, 0, 0, 0, 0, 0, 0, 0, 0, 0, Vector.replicate 12 0⟩ ∧
      (u.acc, u.iq, u.dq, u.oq) = ([], [], [], []) ∧ (u.blkIdx, u.seq, u.ctxSeq, u.t0) = (0, 0, 0, 0) ∧
      (u.oHold, u.rlOutLast, u.rlCtxLast) = (none, none, none) ∧ u.mtr = ⟨0, none, 0, 0, 0, 0, 0⟩ ∧
      (u.pState, u.oState, u.cState) = (.off, .off, .off) ∧ u.statusWord = 0 ∧ u.errWord = 0 ∧
      (u.dropDqCnt, u.dropOqCnt, u.decFailCnt) = (0, 0, 0)

/-- CFG.WRITE and REG.READ (R20, R30 to R32). A write is ignored while running; otherwise the register reads
as written, every other configuration register as before, and nothing but the configuration changes. A
read changes nothing and returns a configuration register's value, `STATUS` or `ERR` bit by bit with the
reserved bits 0, a counter, or an output of the meter. -/
def Obligations.RegisterAccess : Prop :=
  ∀ s : State,
    (∀ a, s.running = true → exec (.cfgWrite a) s = .next { s with out := .done }) ∧
    (∀ a, s.running = false →
      ∃ c : Cfg, exec (.cfgWrite a) s = .next { s with cfg := c, out := .done } ∧
        (∀ r, r ≠ assignReg a → c.read r = s.cfg.read r) ∧
        c.read (assignReg a) = (match a with
          | .bitRes v => .byte v
          | a => .word (BitVec.ofNat 32 (assignValue a)))) ∧
    (∃ w : Word, exec (.regRead .status) s = .next { s with out := .word w } ∧
      w.getLsbD 0 = s.running ∧ w.getLsbD 1 = s.cfgErr ∧ w.getLsbD 2 = s.stopReq ∧ w.getLsbD 3 = s.degraded ∧
      (w.extractLsb' 4 2).toNat = (match s.pState with | .off => 0 | .run => 1 | .dead => 2) ∧
      (w.extractLsb' 6 2).toNat = (match s.oState with | .off => 0 | .wait => 1 | .holding => 2 | .dead => 3) ∧
      (w.extractLsb' 8 2).toNat = (match s.cState with | .off => 0 | .run => 1 | .done => 2 | .dead => 3) ∧
      w.getLsbD 10 = s.dropDq ∧ w.getLsbD 11 = s.dropOq ∧ w.getLsbD 12 = s.decFail ∧ w.getLsbD 13 = s.encFail ∧
      w >>> 14 = 0) ∧
    (∃ w : Word, exec (.regRead .err) s = .next { s with out := .word w } ∧
      w.extractLsb' 0 8 = s.errCode ∧ w.extractLsb' 8 8 = s.errOp ∧ w >>> 16 = 0) ∧
    exec (.regRead .dropDqCnt) s = .next { s with out := .word s.dropDqCnt } ∧
    exec (.regRead .dropOqCnt) s = .next { s with out := .word s.dropOqCnt } ∧
    exec (.regRead .decFailCnt) s = .next { s with out := .word s.decFailCnt } ∧
    exec (.regRead .mtrRate) s = .next { s with out := .dword s.mtr.rate } ∧
    exec (.regRead .mtrReports) s = .next { s with out := .word s.mtr.reports } ∧
    ∀ r, exec (.regRead (.cfg r)) s = .next { s with out := s.cfg.read r }

/-! ## Stage steps -/

/-- P.LOAD (R201) and O.FETCH (R204) with their guards true. -/
def Obligations.StagesPull : Prop :=
  ∀ s : State, s.stopReq = false →
    (∀ c rest, s.pState = .run → s.acc.length < s.cfg.sampleCount.toNat → s.iq = c :: rest →
      exec .pLoad s = .next { s with iq := rest, acc := s.acc ++ c, out := .done }) ∧
    ∀ pkt rest, s.oState = .wait → s.dq = pkt :: rest →
      exec .oFetch s = .next { s with dq := rest, oHold := some pkt, oState := .holding, out := .done }

/-- P.EMIT with its guard true (R202): the oldest block is framed as FRAME.DATA frames it, and the packet is
queued, dropped and counted, or its error recorded; the block's pairs are gone in every case. -/
def Obligations.PEmitFramesAndPushes : Prop :=
  ∀ s : State, s.pState = .run → s.stopReq = false → s.cfg.sampleCount.toNat ≤ s.acc.length →
    let B := s.cfg.sampleCount.toNat
    let framed : State := { s with acc := s.acc.drop B, seq := s.seq + 1, blkIdx := s.blkIdx + 1 }
    exec (.frameData (s.acc.take B)) s =
      .next { s with
        seq := s.seq + 1, blkIdx := s.blkIdx + 1
        out := resultOf .bytes (pktEnc s.params.layout (s.dataPacket (s.acc.take B))) } ∧
    (∀ b, pktEnc s.params.layout (s.dataPacket (s.acc.take B)) = .ok b → exec .pEmit s = .next
      (if s.dq.length < s.cfg.dqCap.toNat then { framed with dq := s.dq ++ [b], out := .ok }
      else { framed with
        dropDq := true, dropDqCnt := BitVec.ofNat 32 (min (s.dropDqCnt.toNat + 1) (2 ^ 32 - 1)), out := .full })) ∧
    ∀ e, pktEnc s.params.layout (s.dataPacket (s.acc.take B)) = .error e → exec .pEmit s = .next { framed with
      encFail := true, errCode := if s.errCode = 0 then e.code else s.errCode
      errOp := if s.errCode = 0 then 0x61 else s.errOp, out := .error e }

/-- O.SEND with its guard true (R205): the held packet is queued and the meter observes its length, or it is
dropped and counted with no observation; either way the limiter is marked and the hold cleared. -/
def Obligations.OSendPushesOnce : Prop :=
  ∀ (s : State) (pkt : Bytes), s.oState = .holding → s.stopReq = false → s.oHold = some pkt →
    (∀ t, s.rlOutLast = some t → (s.cfg.sampleCount.toNat : Int) * s.params.tickHz
      ≤ ((s.now : Int) - t) * s.cfg.sampleRate.toNat) →
      ∃ m, exec (.mtrObs pkt.length) s = .next { s with mtr := m, drawn := s.drawn + 1, out := .done } ∧
        exec .oSend s = .next (if s.oq.length < s.params.oqCap then
          { s with
            oq := s.oq ++ [pkt], rlOutLast := some s.now, mtr := m, drawn := s.drawn + 1
            oHold := none, oState := .wait, out := .ok }
        else { s with
          dropOq := true, dropOqCnt := BitVec.ofNat 32 (min (s.dropOqCnt.toNat + 1) (2 ^ 32 - 1))
          rlOutLast := some s.now, oHold := none, oState := .wait, out := .full })

/-- C.EMIT (R207) and C.EXIT (R208) with their guards true. C.EXIT's guard includes `STOP_REQ = 0` (log 18). -/
def Obligations.ContextStageSteps : Prop :=
  ∀ s : State, s.cState = .run → s.stopReq = false →
    (s.cfg.ctxFreq.toInt ≤ 0 → exec .cExit s = .next { s with cState := .done, out := .done }) ∧
    ∀ tod : BitVec 96, 0 < s.cfg.ctxFreq.toInt →
      (∀ t, s.rlCtxLast = some t → (s.params.tickHz : Int) ≤ ((s.now : Int) - t) * s.cfg.ctxFreq.toInt) →
        let framed : State := { s with
          ctxSeq := if s.cfg.ctxFmt.getLsbD 12 then s.ctxSeq else s.ctxSeq + 1
          drawn := s.drawn + 1, rlCtxLast := some s.now }
        exec (.frameCtx tod) s = .next { s with
          ctxSeq := if s.cfg.ctxFmt.getLsbD 12 then s.ctxSeq else s.ctxSeq + 1, drawn := s.drawn + 1
          out := resultOf .bytes (pktEnc s.params.layout (s.contextPacket tod)) } ∧
        (∀ b, pktEnc s.params.layout (s.contextPacket tod) = .ok b → exec (.cEmit tod) s = .next
          (if s.oq.length < s.params.oqCap then { framed with oq := s.oq ++ [b], out := .ok }
          else { framed with
            dropOq := true, dropOqCnt := BitVec.ofNat 32 (min (s.dropOqCnt.toNat + 1) (2 ^ 32 - 1)), out := .full })) ∧
        ∀ e, pktEnc s.params.layout (s.contextPacket tod) = .error e → exec (.cEmit tod) s = .next { framed with
          encFail := true, errCode := if s.errCode = 0 then e.code else s.errCode
          errOp := if s.errCode = 0 then 0x63 else s.errOp, out := .error e }

/-- A step whose guard is false changes nothing (R151 to R153, R162, R196, R199, R200, R211 to R213). That it is
performed as a step that waits is the model's choice (log 4). -/
def Obligations.DisabledStepsChangeNothing : Prop :=
  ∀ s : State,
    let waits (i : Instr) : Prop := exec i s = .next { s with out := .held }
    (∀ c, c.length ≤ s.params.maxChunk → s.cfg.sampleCount.toNat ≤ s.acc.length → waits (.accPush c)) ∧
    (s.acc.length < s.cfg.sampleCount.toNat → waits .accEmit) ∧
    (s.dq = [] → waits (.qPop .dq)) ∧ (s.oq = [] → waits (.qPop .oq) ∧ waits .snkPop) ∧
    (s.iq = [] → waits (.qPop .iq)) ∧
    (∀ (l : Limiter) (op : WrappedOp l), s.due l = false → waits (.rlCall l op)) ∧
    (s.dq = [] → waits (.rlCall .out .pop)) ∧ (s.oHold = none → waits (.rlCall .out .pushHold)) ∧
    (s.pState ≠ .run ∨ s.stopReq = true ∨ s.cfg.sampleCount.toNat ≤ s.acc.length ∨ s.iq = [] → waits .pLoad) ∧
    (s.pState ≠ .run ∨ s.stopReq = true ∨ s.acc.length < s.cfg.sampleCount.toNat → waits .pEmit) ∧
    (s.oState ≠ .wait ∨ s.stopReq = true ∨ s.dq = [] → waits .oFetch) ∧
    (s.oState ≠ .holding ∨ s.stopReq = true ∨ s.due .out = false → waits .oSend) ∧
    (∀ tod, s.cState ≠ .run ∨ s.stopReq = true ∨ s.cfg.ctxFreq.toInt ≤ 0 ∨ s.due .ctx = false → waits (.cEmit tod)) ∧
    (s.cState ≠ .run ∨ s.stopReq = true ∨ 0 < s.cfg.ctxFreq.toInt → waits .cExit) ∧
    (s.stopReq = false ∨ s.pState ≠ .run → waits .pStop) ∧
    (s.stopReq = false ∨ (s.oState ≠ .wait ∧ s.oState ≠ .holding) → waits .oStop) ∧
    (s.stopReq = false ∨ s.cState ≠ .run → waits .cStop) ∧
    (∀ c, c.length ≤ s.params.maxChunk → s.running = false ∨
      (s.params.iqCap ≤ s.iq.length ∧ s.params.inPushPolicy = .block) → waits (.srcPush c)) ∧
    (s.pState ≠ .run → waits (.stageFault .p)) ∧
    (s.oState ≠ .wait → s.oState ≠ .holding → waits (.stageFault .o)) ∧
    (s.cState ≠ .run → waits (.stageFault .c))

/-! ## Environment steps -/

/-- TICK (R210), and the rule of R33 that nothing else moves `NOW`: it never decreases. That the parameters of
R5 stand in the state and no operation changes them is the model's choice (log 5). -/
def Obligations.OnlyTickMovesTime : Prop :=
  (∀ (n : Nat) (s : State), exec (.tick n) s = .next { s with now := s.now + n, out := .done }) ∧
  ∀ (i : Instr) (s t : State), exec i s = .next t → t.params = s.params ∧ s.now ≤ t.now ∧
    ((∀ n, i ≠ .tick n) → t.now = s.now)

/-- STAGE.FAULT on a stage in a running state (R213, R241): the stage is dead, O's held packet is gone,
`DEGRADED` is set and the fault recorded if it is the first error. -/
def Obligations.StageFaultKillsOneStage : Prop :=
  ∀ s : State,
    let recorded (u : State) : State := { u with
      degraded := true, errCode := if s.errCode = 0 then 64 else s.errCode
      errOp := if s.errCode = 0 then 0x8B else s.errOp, out := .done }
    (s.pState = .run → exec (.stageFault .p) s = .next (recorded { s with pState := .dead })) ∧
    (s.oState = .wait ∨ s.oState = .holding →
      exec (.stageFault .o) s = .next (recorded { s with oState := .dead, oHold := none })) ∧
    (s.cState = .run → exec (.stageFault .c) s = .next (recorded { s with cState := .dead }))

/-! ## Wire formats -/

/-- The words and fields of R60 to R65 and R69 to R72: every word decodes to the fields at the bit positions
the rules give, for a trailer those of TRL.DEC; and each then reads as what it stands for, and nothing
changes. A context payload draws for the bytes that R182 leaves open (log 3, log 12). -/
def Obligations.WireWordsRead : Prop :=
  (∀ w : Word,
    decode ⟨.wire .headerVita, be 4 w.toNat⟩ = .ok (.wordHeaderVita ⟨w.extractLsb' 28 4, w.getLsbD 27,
      w.getLsbD 26, w.getLsbD 24, w.extractLsb' 22 2, w.extractLsb' 20 2, w.extractLsb' 16 4, w.extractLsb' 0 16⟩) ∧
    decode ⟨.wire .headerListed, be 4 w.toNat⟩ = .ok (.wordHeaderListed ⟨w.extractLsb' 0 4, w.getLsbD 4,
      w.getLsbD 5, w.getLsbD 7, w.extractLsb' 8 2, w.extractLsb' 10 2, w.extractLsb' 12 4, w.extractLsb' 16 16⟩) ∧
    decode ⟨.wire .trailerVita, be 4 w.toNat⟩ = .ok (.wordTrailerVita (w.extractLsb' 20 12) (w.extractLsb' 8 12)
      (w.getLsbD 7) (w.extractLsb' 0 7)) ∧
    trlDec .vita w = ⟨w.extractLsb' 20 12, w.extractLsb' 8 12,
      if w.getLsbD 7 then some (w.extractLsb' 0 7) else none⟩ ∧
    decode ⟨.wire .trailerListed, be 4 w.toNat⟩ = .ok (.wordTrailerListed (w.extractLsb' 0 12)
      (w.extractLsb' 12 12) (w.getLsbD 24) (w.extractLsb' 25 7)) ∧
    trlDec .listed w = ⟨w.extractLsb' 0 12, w.extractLsb' 12 12,
      if w.getLsbD 24 then some (w.extractLsb' 25 7) else none⟩ ∧
    decode ⟨.wire .streamId, be 4 w.toNat⟩ = .ok (.wordStreamId w) ∧
    decode ⟨.wire .classId1, be 4 w.toNat⟩ = .ok (.wordClassId1 (w.extractLsb' 0 24)) ∧
    decode ⟨.wire .classId2, be 4 w.toNat⟩ = .ok (.wordClassId2 (w.extractLsb' 16 16) (w.extractLsb' 0 16)) ∧
    decode ⟨.wire .tsInt, be 4 w.toNat⟩ = .ok (.wordTsInt w)) ∧
  (∀ f : BitVec 64, decode ⟨.wire .tsFrac, be 8 f.toNat⟩ = .ok (.fieldTsFrac f)) ∧
  (∀ b0 b1 b2 : Byte, decode ⟨.wire .triplet, [b0, b1, b2]⟩ =
    .ok (.fieldTriplet (b0 ++ b1.extractLsb' 4 4) (b1.extractLsb' 0 4 ++ b2))) ∧
  (∀ b : Bytes, b.length = 48 → decode ⟨.wire .ctxPayload, b⟩ = .ok (.fieldCtxPayload b)) ∧
  ∀ s : State,
    (∀ h, exec (.wordHeaderVita h) s = .next { s with out := .header h }) ∧
    (∀ h, exec (.wordHeaderListed h) s = .next { s with out := .header h }) ∧
    (∀ e i x c, exec (.wordTrailerVita e i x c) s =
      .next { s with out := .trailer ⟨e, i, if x then some c else none⟩ }) ∧
    (∀ e i x c, exec (.wordTrailerListed e i x c) s =
      .next { s with out := .trailer ⟨e, i, if x then some c else none⟩ }) ∧
    (∀ sid, exec (.wordStreamId sid) s = .next { s with out := .word sid }) ∧
    (∀ o, exec (.wordClassId1 o) s = .next { s with out := .oui o }) ∧
    (∀ a b, exec (.wordClassId2 a b) s = .next { s with out := .classCodes a b }) ∧
    (∀ sec, exec (.wordTsInt sec) s = .next { s with out := .timestamp (some (sec.toNat * 10 ^ 12)) }) ∧
    (∀ frac, exec (.fieldTsFrac frac) s = .next { s with out := .timestamp (some frac.toNat) }) ∧
    (∀ a b, exec (.fieldTriplet a b) s = .next { s with out := .values [a, b] }) ∧
    ∀ b : Bytes, b.length = 48 → OffsetsLegal s.cfg.ctxOff → ∃ whole,
      exec (.fieldCtxPayload b) s = .next { s with
        drawn := s.drawn + 1
        out := .ctxFields (BitVec.ofNat 32 (ube (slice b (offBw s.cfg.ctxOff) 4)))
          (BitVec.ofNat 32 (ube (slice b (offFreq s.cfg.ctxOff) 4)))
          (BitVec.ofNat 32 (ube (slice b (offSr s.cfg.ctxOff) 4))) whole } ∧
      (whole = true ↔ ∀ k, k < 48 →
        (∀ o ∈ [offBw s.cfg.ctxOff, offFreq s.cfg.ctxOff, offSr s.cfg.ctxOff], k < o ∨ o + 4 ≤ k) →
          b[k]? = some (s.cfg.templateByte k))

/-- A packet of each of the sixteen types (R63, R75) is read as PKT.DEC reads its bytes, the Header word that
HDR.ENC makes of its fields and the body after it; and the fields the decoder reads off a wire Header word
are HDR.DEC's (R60, R61, R94). Performing a packet this way is the model's choice (log 3). -/
def Obligations.WirePacketsDecode : Prop :=
  (∀ (l : Layout) (w : Word), readHeader l w = hdrDec l w) ∧
  ∀ (p : WirePacket) (s : State),
    let decoded (pt : BitVec 4) : Result :=
      match pktDec p.layout (be 4 (hdrEnc p.layout
          ⟨pt, p.hasClassId, p.hasTrailer, p.tsm, p.tsi, p.tsf, p.count, p.size⟩).toNat ++ p.body) with
      | .ok q => .packet q
      | .error e => .error e
    let read (pt : BitVec 4) : Host.Outcome State Fault Refusal := .next { s with out := decoded pt }
    exec (.pktPtData p) s = read 0 ∧ exec (.pktPtDataWithId p) s = read 1 ∧ exec (.pktPtExtData p) s = read 2 ∧
    exec (.pktPtExtDataWithId p) s = read 3 ∧ exec (.pktPtContext p) s = read 4 ∧
    exec (.pktPtExtContext p) s = read 5 ∧ exec (.pktUnnamed6 p) s = read 6 ∧ exec (.pktUnnamed7 p) s = read 7 ∧
    exec (.pktUnnamed8 p) s = read 8 ∧ exec (.pktUnnamed9 p) s = read 9 ∧ exec (.pktUnnamed10 p) s = read 10 ∧
    exec (.pktUnnamed11 p) s = read 11 ∧ exec (.pktUnnamed12 p) s = read 12 ∧ exec (.pktUnnamed13 p) s = read 13 ∧
    exec (.pktUnnamed14 p) s = read 14 ∧ exec (.pktUnnamed15 p) s = read 15

/-! ## The whole machine -/

/-- The state after reset is legal. -/
def Obligations.ResetIsLegal : Prop := Legal State.reset

/-- Every step keeps every invariant of a legal state: the queue bounds (R28, R52), `O_HOLD` against
`O_STATE` (R29), `SEQ` against `BLK_IDX` (R180), the flags against the counters and the error record (R30 to
R32), what a run has (R198, R199), the accumulator's capacity (R21, R151), the meter's window (R166) and the marks of
time (R33). -/
def Obligations.StepKeepsLegal : Prop :=
  ∀ s t : State, Legal s → step s = .next t → Legal t

/-- A dead stage stays dead, and `DEGRADED` set, under every operation but RESET (R29, R213, R241, R260). -/
def Obligations.OnlyResetRevives : Prop :=
  ∀ (i : Instr) (s t : State), DegradedIffDead s → exec i s = .next t → i ≠ .reset →
    (s.pState = .dead → t.pState = .dead) ∧ (s.oState = .dead → t.oState = .dead) ∧
      (s.cState = .dead → t.cState = .dead) ∧ (s.degraded = true → t.degraded = true)

/-- The configuration is fixed for the life of a run (R20, R51): while `RUNNING` no step but RESET's changes a
configuration register. -/
def Obligations.ConfigIsFrozenInARun : Prop :=
  ∀ (s t : State), s.running = true → step s = .next t → decode s.fetch.1 ≠ .ok .reset → t.cfg = s.cfg

/-- `ERR` keeps the first recorded error until START or RESET (R31, R243), and no operation but those lowers a
sticky flag or a counter (R30, R32, R242). -/
def Obligations.FirstErrorAndFlagsStick : Prop :=
  ∀ (i : Instr) (s t : State), exec i s = .next t → i ≠ .reset → (∀ tod, i ≠ .start tod) →
    (s.errCode ≠ 0 → t.errCode = s.errCode ∧ t.errOp = s.errOp) ∧
    (s.dropDq = true → t.dropDq = true) ∧ (s.dropOq = true → t.dropOq = true) ∧
    (s.decFail = true → t.decFail = true) ∧ (s.encFail = true → t.encFail = true) ∧
    (s.stopReq = true → t.stopReq = true) ∧ t.cfgErr = s.cfgErr ∧
    s.dropDqCnt.toNat ≤ t.dropDqCnt.toNat ∧ s.dropOqCnt.toNat ≤ t.dropOqCnt.toNat ∧
    s.decFailCnt.toNat ≤ t.decFailCnt.toNat

/-- The ownership table of R250: each data-path and stage register is changed only by its owner's operations,
by START and by RESET. The primitives a stage performs are among its operations (log 15), and so is RL.CALL
with its own limiter, which wraps none but its own operations (log 16). `RUNNING` is among the registers that
no operation changes only because it falls after the step that performs the operation (R199; log 19). -/
def Obligations.RegistersHaveOwners : Prop :=
  ∀ (i : Instr) (s t : State), exec i s = .next t → i ≠ .reset → (∀ tod, i ≠ .start tod) →
    t.t0 = s.t0 ∧ t.running = s.running ∧
    (t.cfg ≠ s.cfg → ∃ a, i = .cfgWrite a) ∧
    (t.stopReq ≠ s.stopReq → i = .stop) ∧
    (t.acc ≠ s.acc → i = .pLoad ∨ i = .pEmit ∨ i = .accEmit ∨ ∃ c, i = .accPush c) ∧
    (t.blkIdx ≠ s.blkIdx ∨ t.seq ≠ s.seq → i = .pEmit ∨ ∃ blk, i = .frameData blk) ∧
    (t.pState ≠ s.pState → i = .pStop ∨ i = .stageFault .p) ∧
    (t.oHold ≠ s.oHold ∨ t.oState ≠ s.oState → i = .oFetch ∨ i = .oSend ∨ i = .oStop ∨ i = .stageFault .o) ∧
    (t.rlOutLast ≠ s.rlOutLast → i = .oSend ∨ i = .rlMark .out ∨ ∃ op, i = .rlCall .out op) ∧
    (t.mtr ≠ s.mtr → i = .oSend ∨ (∃ n, i = .mtrObs n) ∨ ∃ n, i = .rlCall .out (.mtrObs n)) ∧
    (t.ctxSeq ≠ s.ctxSeq → (∃ tod, i = .cEmit tod ∨ i = .frameCtx tod) ∨
      ∃ tod, i = .rlCall .ctx (.frameCtx tod) ∨ i = .rlCall .ctx (.buildAndPush tod)) ∧
    (t.rlCtxLast ≠ s.rlCtxLast → (∃ tod, i = .cEmit tod) ∨ i = .rlMark .ctx ∨ ∃ op, i = .rlCall .ctx op) ∧
    (t.cState ≠ s.cState → i = .cExit ∨ i = .cStop ∨ i = .stageFault .c) ∧
    (t.degraded ≠ s.degraded → ∃ g, i = .stageFault g)

/-- Every hold has something that lifts it (R209). In any weakly fair run from a legal state (log 25), unless the
stage is stopped, reset or killed: a full block is emitted, so that `DQ` is fed; a chunk in `IQ` below a full
block is loaded; a packet in `DQ` is fetched by an idle stage O; a held packet is sent, TICK making its limiter
due; a context packet is built with a positive `CFG_CTX_FREQ`, and stage C exits without one. And a requested
stop ends: the stopped point (R209 a) is reached. -/
def Obligations.HoldsAreLifted : Prop :=
  ∀ r : Run, Legal (r.state 0) → WeaklyFair r → ∀ n : Nat,
    let s := r.state n
    let later (g : Stage) (done : Instr → Prop) : Prop := ∃ m, n ≤ m ∧
      (done (r.move m) ∨ r.move m = .stop ∨ r.move m = .reset ∨ r.move m = .stageFault g)
    (s.stopReq = false →
      (s.pState = .run → s.cfg.sampleCount.toNat ≤ s.acc.length → later .p (· = .pEmit)) ∧
      (s.pState = .run → s.acc.length < s.cfg.sampleCount.toNat → s.iq ≠ [] → later .p (· = .pLoad)) ∧
      (s.oState = .wait → s.dq ≠ [] → later .o (· = .oFetch)) ∧
      (s.oState = .holding → later .o (· = .oSend)) ∧
      (s.cState = .run → 0 < s.cfg.ctxFreq.toInt → later .c fun i => ∃ tod, i = .cEmit tod) ∧
      (s.cState = .run → s.cfg.ctxFreq.toInt ≤ 0 → later .c (· = .cExit))) ∧
    (s.stopReq = true → ∃ m, n ≤ m ∧ (r.state m).running = false)
end

