-- ==== Sys2Proof/Laws/Bytes.lean ====
section
/-! SUPPORT. Byte order, and one lemma per operand format: what it writes it reads back, whatever bytes
follow. -/

namespace Sys2Proof

/-! ### Byte order (R6) -/

@[simp] theorem be_length (n v : Nat) : (be n v).length = n := by
  induction n with
  | zero => rfl
  | succ n ih => simp [be, ih]

theorem foldl_ube (b : Bytes) (acc : Nat) :
    b.foldl (fun a x => a * 256 + x.toNat) acc = acc * 256 ^ b.length + ube b := by
  induction b generalizing acc with
  | nil => simp [ube]
  | cons x b ih =>
    simp only [ube, List.foldl_cons, List.length_cons]
    rw [ih, ih]
    ring

theorem ube_cons (x : Byte) (b : Bytes) : ube (x :: b) = x.toNat * 256 ^ b.length + ube b := by
  have := foldl_ube b x.toNat
  simpa [ube] using this

theorem ube_append (a b : Bytes) : ube (a ++ b) = ube a * 256 ^ b.length + ube b := by
  have := foldl_ube b (ube a)
  simpa [ube, List.foldl_append] using this

theorem ube_lt (b : Bytes) : ube b < 256 ^ b.length := by
  induction b with
  | nil => simp [ube]
  | cons x b ih =>
    rw [ube_cons, List.length_cons, pow_succ]
    have hx := x.isLt
    have : (x.toNat + 1) * 256 ^ b.length ≤ 256 * 256 ^ b.length :=
      Nat.mul_le_mul_right _ (by omega)
    calc x.toNat * 256 ^ b.length + ube b < x.toNat * 256 ^ b.length + 256 ^ b.length := by omega
      _ = (x.toNat + 1) * 256 ^ b.length := by ring
      _ ≤ 256 ^ b.length * 256 := by omega

/-- Reading back what was written, modulo the width. -/
theorem ube_be (n v : Nat) : ube (be n v) = v % 256 ^ n := by
  induction n with
  | zero => simp [be, ube, Nat.mod_one]
  | succ n ih =>
    rw [be, ube_cons, be_length, ih, BitVec.toNat_ofNat, Nat.shiftRight_eq_div_pow]
    have h : (2 : Nat) ^ (8 * n) = 256 ^ n := by rw [pow_mul]; norm_num
    rw [h, show (256 : Nat) ^ (n + 1) = 256 ^ n * 256 from pow_succ _ _,
      Nat.mod_mul (a := 256 ^ n) (b := 256), show (2 : Nat) ^ 8 = 256 from rfl]
    ring

theorem ube_be_of_lt {n v : Nat} (h : v < 256 ^ n) : ube (be n v) = v := by
  rw [ube_be, Nat.mod_eq_of_lt h]

/-- The other direction: the bytes of an unsigned integer read from bytes are those bytes. -/
theorem be_ube (b : Bytes) : be b.length (ube b) = b := by
  induction b with
  | nil => rfl
  | cons x b ih =>
    have h : (2 : Nat) ^ (8 * b.length) = 256 ^ b.length := by rw [pow_mul]; norm_num
    have hlt := ube_lt b
    have key : ∀ n v w, be n (v * 256 ^ n + w) = be n w := by
      intro n
      induction n with
      | zero => intros; rfl
      | succ n ihn =>
        intro v w
        have h' : (2 : Nat) ^ (8 * n) = 256 ^ n := by rw [pow_mul]; norm_num
        simp only [be, Nat.shiftRight_eq_div_pow, h']
        have e : v * 256 ^ (n + 1) + w = (v * 256) * 256 ^ n + w := by rw [pow_succ]; ring
        rw [e, ihn (v * 256) w]
        congr 1
        rw [add_comm, Nat.add_mul_div_right _ _ (by positivity)]
        apply BitVec.eq_of_toNat_eq
        simp only [BitVec.toNat_ofNat]
        omega
    rw [List.length_cons, be, ube_cons, key, ih]
    congr 1
    rw [Nat.shiftRight_eq_div_pow, h, add_comm, Nat.add_mul_div_right _ _ (by positivity),
      Nat.div_eq_of_lt hlt]
    simp

/-! ### Operand formats -/

/-- What the format writes for a legal operand it reads back, leaving what follows. -/
def OperandFormat.ReadsBack {α : Type} (f : OperandFormat α) (ok : α → Prop) : Prop :=
  ∀ a rest, ok a → f.get (f.put a ++ rest) = .ok (a, rest)

theorem parseThen_ok {α β : Type} (a : α) (b : Bytes) (k : α → Bytes → Parsed β) :
    parseThen (.ok (a, b)) k = k a b := rfl

theorem fmtNat_readsBack (n : Nat) : (fmtNat n).ReadsBack (fun v => v < 256 ^ n) := by
  intro v rest h
  have hl : ¬ ((be n v ++ rest).length < n) := by simp
  simp only [fmtNat, if_neg hl]
  rw [List.take_left' (be_length n v), List.drop_left' (be_length n v), ube_be_of_lt h]

theorem fmtVia_readsBack {α β : Type} {f : OperandFormat α} {ok : α → Prop} (hf : f.ReadsBack ok)
    (toRaw : β → α) (ofRaw : α → Except DecodeError β) :
    (fmtVia f toRaw ofRaw).ReadsBack (fun v => ok (toRaw v) ∧ ofRaw (toRaw v) = .ok v) := by
  intro v rest h
  simp only [fmtVia, hf _ rest h.1, parseThen_ok, h.2]

theorem fmtBits_readsBack (w n : Nat) (hw : 2 ^ w ≤ 256 ^ n) :
    (fmtBits w n).ReadsBack (fun _ => True) := by
  intro v rest _
  refine fmtVia_readsBack (fmtNat_readsBack n) _ _ v rest ⟨lt_of_lt_of_le v.isLt hw, ?_⟩
  simp [v.isLt]

theorem fmtBool_readsBack : fmtBool.ReadsBack (fun _ => True) := by
  intro v rest _
  exact fmtVia_readsBack (fmtNat_readsBack 1) _ _ v rest (by cases v <;> simp)

theorem fmtPair_readsBack {α β : Type} {f : OperandFormat α} {g : OperandFormat β} {okf : α → Prop}
    {okg : β → Prop} (hf : f.ReadsBack okf) (hg : g.ReadsBack okg) :
    (fmtPair f g).ReadsBack (fun v => okf v.1 ∧ okg v.2) := by
  intro v rest h
  simp only [fmtPair, List.append_assoc, hf _ _ h.1, parseThen_ok, hg _ _ h.2]

theorem fmtOption_readsBack {α : Type} {f : OperandFormat α} {ok : α → Prop} (hf : f.ReadsBack ok) :
    (fmtOption f).ReadsBack (fun v => ∀ a, v = some a → ok a) := by
  intro v rest h
  cases v with
  | none => simp [fmtOption, fmtBool_readsBack _ _ trivial, parseThen_ok]
  | some a =>
    simp only [fmtOption, List.append_assoc, fmtBool_readsBack _ _ trivial, parseThen_ok,
      hf _ _ (h a rfl), if_true]

theorem parseMany_readsBack {α : Type} {f : OperandFormat α} {ok : α → Prop} (hf : f.ReadsBack ok)
    (xs : List α) (rest : Bytes) (h : ∀ a ∈ xs, ok a) (n : Nat) (hn : xs.length < n) :
    parseMany f.get n ((fmtList f).put xs ++ rest) = .ok (xs, rest) := by
  induction xs generalizing n with
  | nil =>
    obtain ⟨n, rfl⟩ : ∃ k, n = k + 1 := ⟨n - 1, by simp at hn; omega⟩
    simp [fmtList, parseMany, fmtBool_readsBack _ _ trivial, parseThen_ok]
  | cons x xs ih =>
    obtain ⟨n, rfl⟩ : ∃ k, n = k + 1 := ⟨n - 1, by simp at hn; omega⟩
    have := ih (fun a ha => h a (by simp [ha])) n (by simpa using hn)
    simp only [fmtList, List.append_assoc] at this ⊢
    simp only [List.flatMap_cons, List.append_assoc, parseMany, fmtBool_readsBack _ _ trivial,
      parseThen_ok, hf _ _ (h x (by simp)), if_true, this]

theorem fmtList_put_length {α : Type} (f : OperandFormat α) (xs : List α) :
    xs.length < ((fmtList f).put xs).length := by
  induction xs with
  | nil => simp [fmtList, fmtBool, fmtVia, fmtNat]
  | cons x xs ih =>
    simp only [fmtList, fmtBool, fmtVia, fmtNat, List.flatMap_cons, List.length_append, be_length,
      List.length_cons] at ih ⊢
    omega

theorem fmtList_readsBack {α : Type} {f : OperandFormat α} {ok : α → Prop} (hf : f.ReadsBack ok) :
    (fmtList f).ReadsBack (fun xs => ∀ a ∈ xs, ok a) := by
  intro xs rest h
  have := fmtList_put_length f xs
  exact parseMany_readsBack hf xs rest h _ (by rw [List.length_append]; omega)

theorem fmtRaw_readsBack (n : Nat) : (fmtRaw n).ReadsBack (fun b => b.length = n) := by
  intro b rest h
  have hl : ¬ ((b ++ rest).length < n) := by simp; omega
  simp only [fmtRaw, if_neg hl, List.take_left' h, List.drop_left' h]

theorem fmtSelector_readsBack {α : Type} (num : α → Nat) (ofNum : Nat → Option α) :
    (fmtSelector num ofNum).ReadsBack (fun a => num a < 256 ∧ ofNum (num a) = some a) := by
  intro a rest h
  refine fmtVia_readsBack (fmtNat_readsBack 1) _ _ a rest ⟨by simpa using h.1, ?_⟩
  simp [h.2]

/-- `build` on what its format wrote. -/
theorem build_readsBack {α : Type} {f : OperandFormat α} {ok : α → Prop} (hf : f.ReadsBack ok)
    (mk : α → Instr) (a : α) (h : ok a) : build f (f.put a) mk = .ok (mk a) := by
  have := hf a [] h
  rw [List.append_nil] at this
  simp [build, this]

end Sys2Proof
end

