-- ==== Sys2Proof/Laws/Formats.lean ====
section
/-! SUPPORT. Each operand of a command reads back what it writes, for every value. -/

namespace Sys2Proof

theorem OperandFormat.ReadsBack.weaken {α : Type} {f : OperandFormat α} {p q : α → Prop}
    (h : f.ReadsBack p) (hw : ∀ a, q a → p a) : f.ReadsBack q := fun a r k => h a r (hw a k)

theorem fmtByte_readsBack : fmtByte.ReadsBack (fun _ => True) := fmtBits_readsBack 8 1 (by norm_num)

theorem fmtWord_readsBack : fmtWord.ReadsBack (fun _ => True) := fmtBits_readsBack 32 4 (by norm_num)

theorem fmtBytes_readsBack : fmtBytes.ReadsBack (fun _ => True) :=
  (fmtList_readsBack fmtByte_readsBack).weaken fun _ _ _ _ => trivial

/-- An unsigned integer of any size reads back. -/
theorem fmtNum_readsBack : fmtNum.ReadsBack (fun _ => True) :=
  (fmtVia_readsBack fmtBytes_readsBack _ _).weaken fun v _ => by
    refine ⟨trivial, ?_⟩
    have h : v < 256 ^ (v.log2 / 8 + 1) := by
      calc v < 2 ^ (v.log2 + 1) := Nat.lt_log2_self
        _ ≤ 2 ^ (8 * (v.log2 / 8 + 1)) := Nat.pow_le_pow_right (by norm_num) (by omega)
        _ = 256 ^ (v.log2 / 8 + 1) := by rw [pow_mul]; norm_num
    rw [ube_be_of_lt h]

theorem fmtSample_readsBack : fmtSample.ReadsBack (fun _ => True) :=
  (fmtVia_readsBack (fmtPair_readsBack (fmtBits_readsBack 16 2 (by norm_num))
    (fmtBits_readsBack 16 2 (by norm_num))) _ _).weaken fun _ _ => ⟨⟨trivial, trivial⟩, rfl⟩

theorem fmtChunk_readsBack : fmtChunk.ReadsBack (fun _ => True) :=
  (fmtList_readsBack fmtSample_readsBack).weaken fun _ _ _ _ => trivial

theorem fmtDescriptor_readsBack : fmtDescriptor.ReadsBack (fun _ => True) :=
  (fmtVia_readsBack (fmtPair_readsBack (fmtOption_readsBack fmtByte_readsBack) fmtNum_readsBack)
    _ _).weaken fun _ _ => by simp

theorem fmtLayout_readsBack : fmtLayout.ReadsBack (fun _ => True) :=
  (fmtList_readsBack fmtDescriptor_readsBack).weaken fun _ _ _ _ => trivial

theorem fmtRecord_readsBack : fmtRecord.ReadsBack (fun _ => True) :=
  (fmtList_readsBack (fmtPair_readsBack fmtByte_readsBack fmtNum_readsBack)).weaken fun _ _ _ _ => by simp

theorem fmtHeader_readsBack : fmtHeader.ReadsBack (fun _ => True) :=
  (fmtVia_readsBack (fmtPair_readsBack
    (fmtPair_readsBack (fmtPair_readsBack (fmtBits_readsBack 4 1 (by norm_num)) fmtBool_readsBack)
      (fmtPair_readsBack fmtBool_readsBack fmtBool_readsBack))
    (fmtPair_readsBack
      (fmtPair_readsBack (fmtBits_readsBack 2 1 (by norm_num)) (fmtBits_readsBack 2 1 (by norm_num)))
      (fmtPair_readsBack (fmtBits_readsBack 4 1 (by norm_num)) (fmtBits_readsBack 16 2 (by norm_num)))))
    _ _).weaken fun _ _ => by simp

theorem fmtTrailer_readsBack : fmtTrailer.ReadsBack (fun _ => True) :=
  (fmtVia_readsBack (fmtPair_readsBack
    (fmtPair_readsBack (fmtBits_readsBack 12 2 (by norm_num)) (fmtBits_readsBack 12 2 (by norm_num)))
    (fmtOption_readsBack (fmtBits_readsBack 7 1 (by norm_num)))) _ _).weaken fun _ _ => by simp

theorem fmtClassId_readsBack : fmtClassId.ReadsBack (fun _ => True) :=
  (fmtVia_readsBack (fmtPair_readsBack (fmtBits_readsBack 24 3 (by norm_num))
    (fmtPair_readsBack (fmtBits_readsBack 16 2 (by norm_num)) (fmtBits_readsBack 16 2 (by norm_num))))
    _ _).weaken fun _ _ => by simp

theorem fmtTod_readsBack : fmtTod.ReadsBack (fun _ => True) := fmtBits_readsBack 96 12 (by norm_num)

theorem fmtPacket_readsBack : fmtPacket.ReadsBack (fun _ => True) := by
  intro p rest _
  refine fmtVia_readsBack
    (fmtPair_readsBack
      (fmtPair_readsBack
        (fmtPair_readsBack (fmtBits_readsBack 4 1 (by norm_num)) (fmtBits_readsBack 2 1 (by norm_num)))
        (fmtPair_readsBack (fmtBits_readsBack 2 1 (by norm_num))
          (fmtPair_readsBack (fmtOption_readsBack fmtBool_readsBack) (fmtBits_readsBack 4 1 (by norm_num)))))
      (fmtPair_readsBack
        (fmtPair_readsBack
          (fmtPair_readsBack (fmtOption_readsBack fmtWord_readsBack) (fmtOption_readsBack fmtNum_readsBack))
          (fmtPair_readsBack (fmtOption_readsBack (fmtBits_readsBack 24 3 (by norm_num)))
            (fmtPair_readsBack (fmtOption_readsBack (fmtBits_readsBack 16 2 (by norm_num)))
              (fmtOption_readsBack (fmtBits_readsBack 16 2 (by norm_num))))))
        (fmtPair_readsBack fmtBytes_readsBack (fmtOption_readsBack fmtTrailer_readsBack))))
    _ _ p rest (by simp)

theorem fmtSelector_total {α : Type} {num : α → Nat} {ofNum : Nat → Option α}
    (h : ∀ a, num a < 256 ∧ ofNum (num a) = some a) : (fmtSelector num ofNum).ReadsBack (fun _ => True) :=
  (fmtSelector_readsBack num ofNum).weaken fun a _ => h a

theorem fmtLimiter_readsBack : fmtLimiter.ReadsBack (fun _ => True) :=
  fmtSelector_total fun a => by cases a <;> decide

theorem fmtQueue_readsBack : fmtQueue.ReadsBack (fun _ => True) :=
  fmtSelector_total fun a => by cases a <;> decide

theorem fmtStage_readsBack : fmtStage.ReadsBack (fun _ => True) :=
  fmtSelector_total fun a => by cases a <;> decide

theorem fmtCfgReg_readsBack : fmtCfgReg.ReadsBack (fun _ => True) := by
  refine fmtSelector_total fun a => ?_
  cases a
  case ctxTemplate k => revert k; decide
  all_goals decide

theorem fmtReg_readsBack : fmtReg.ReadsBack (fun _ => True) := by
  refine fmtSelector_total fun a => ?_
  cases a
  case cfg r =>
    cases r
    case ctxTemplate k => revert k; decide
    all_goals decide
  all_goals decide

theorem fmtAssign_readsBack : fmtAssign.ReadsBack (fun _ => True) := by
  refine (fmtVia_readsBack (fmtPair_readsBack fmtCfgReg_readsBack (fmtNat_readsBack 4)) _ _).weaken
    fun a _ => ?_
  cases a <;> simp [assignReg, assignValue, assignOf] <;> rename_i v <;> have := v.isLt <;> omega

theorem fmtItem_readsBack : fmtItem.ReadsBack (fun _ => True) := by
  intro i rest _
  cases i <;> simp only [fmtItem, List.append_assoc] <;>
    rw [fmtNat_readsBack 1 _ _ (by norm_num), parseThen_ok]
  · simp only [fmtBytes_readsBack _ _ trivial, parseThen_ok]
  · simp only [fmtBytes_readsBack _ _ trivial, parseThen_ok]
  · simp only [fmtChunk_readsBack _ _ trivial, parseThen_ok]

theorem fmtWrapped_readsBack : ∀ l, (fmtWrapped l).ReadsBack (fun _ => True)
  | .out => by
    intro op rest _
    cases op <;> simp only [fmtWrapped, fmtWrappedOut, List.append_assoc] <;>
      rw [fmtNat_readsBack 1 _ _ (by norm_num), parseThen_ok]
    case tryPush => simp only [fmtBytes_readsBack _ _ trivial, parseThen_ok]
    case mtrObs => simp only [fmtNum_readsBack _ _ trivial, parseThen_ok]
    all_goals rfl
  | .ctx => by
    intro op rest _
    cases op <;> simp only [fmtWrapped, fmtWrappedCtx, List.append_assoc] <;>
      rw [fmtNat_readsBack 1 _ _ (by norm_num), parseThen_ok]
    case tryPush => simp only [fmtBytes_readsBack _ _ trivial, parseThen_ok]
    case pktEnc => simp only [fmtPacket_readsBack _ _ trivial, parseThen_ok]
    all_goals simp only [fmtTod_readsBack _ _ trivial, parseThen_ok]

theorem fmtCall_readsBack : fmtCall.ReadsBack (fun _ => True) := by
  intro v rest _
  simp only [fmtCall, List.append_assoc, fmtLimiter_readsBack _ _ trivial, parseThen_ok,
    fmtWrapped_readsBack _ _ _ trivial]

theorem fmtTicks_readsBack : fmtTicks.ReadsBack (fun n => 1 ≤ n) :=
  (fmtVia_readsBack fmtNum_readsBack _ _).weaken fun n h => ⟨trivial, by simp; omega⟩

end Sys2Proof
end

