-- ==== Sys2Proof/Laws/State.lean ====
section
/-! SUPPORT. One lemma per field per update of the state: what an update writes and that it leaves every
other field alone. Generated by a loop over the fields, so that no proof unfolds a record update. -/

namespace Sys2Proof.Machine

/-! ### The draw of a free value (log 9) -/

@[simp] theorem State.draw_params (s : State) : s.draw.params = s.params := rfl
@[simp] theorem State.draw_cfg (s : State) : s.draw.cfg = s.cfg := rfl
@[simp] theorem State.draw_acc (s : State) : s.draw.acc = s.acc := rfl
@[simp] theorem State.draw_blkIdx (s : State) : s.draw.blkIdx = s.blkIdx := rfl
@[simp] theorem State.draw_seq (s : State) : s.draw.seq = s.seq := rfl
@[simp] theorem State.draw_ctxSeq (s : State) : s.draw.ctxSeq = s.ctxSeq := rfl
@[simp] theorem State.draw_t0 (s : State) : s.draw.t0 = s.t0 := rfl
@[simp] theorem State.draw_oHold (s : State) : s.draw.oHold = s.oHold := rfl
@[simp] theorem State.draw_rlOutLast (s : State) : s.draw.rlOutLast = s.rlOutLast := rfl
@[simp] theorem State.draw_rlCtxLast (s : State) : s.draw.rlCtxLast = s.rlCtxLast := rfl
@[simp] theorem State.draw_mtr (s : State) : s.draw.mtr = s.mtr := rfl
@[simp] theorem State.draw_iq (s : State) : s.draw.iq = s.iq := rfl
@[simp] theorem State.draw_dq (s : State) : s.draw.dq = s.dq := rfl
@[simp] theorem State.draw_oq (s : State) : s.draw.oq = s.oq := rfl
@[simp] theorem State.draw_pState (s : State) : s.draw.pState = s.pState := rfl
@[simp] theorem State.draw_oState (s : State) : s.draw.oState = s.oState := rfl
@[simp] theorem State.draw_cState (s : State) : s.draw.cState = s.cState := rfl
@[simp] theorem State.draw_running (s : State) : s.draw.running = s.running := rfl
@[simp] theorem State.draw_cfgErr (s : State) : s.draw.cfgErr = s.cfgErr := rfl
@[simp] theorem State.draw_stopReq (s : State) : s.draw.stopReq = s.stopReq := rfl
@[simp] theorem State.draw_degraded (s : State) : s.draw.degraded = s.degraded := rfl
@[simp] theorem State.draw_dropDq (s : State) : s.draw.dropDq = s.dropDq := rfl
@[simp] theorem State.draw_dropOq (s : State) : s.draw.dropOq = s.dropOq := rfl
@[simp] theorem State.draw_decFail (s : State) : s.draw.decFail = s.decFail := rfl
@[simp] theorem State.draw_encFail (s : State) : s.draw.encFail = s.encFail := rfl
@[simp] theorem State.draw_errCode (s : State) : s.draw.errCode = s.errCode := rfl
@[simp] theorem State.draw_errOp (s : State) : s.draw.errOp = s.errOp := rfl
@[simp] theorem State.draw_dropDqCnt (s : State) : s.draw.dropDqCnt = s.dropDqCnt := rfl
@[simp] theorem State.draw_dropOqCnt (s : State) : s.draw.dropOqCnt = s.dropOqCnt := rfl
@[simp] theorem State.draw_decFailCnt (s : State) : s.draw.decFailCnt = s.decFailCnt := rfl
@[simp] theorem State.draw_now (s : State) : s.draw.now = s.now := rfl
@[simp] theorem State.draw_agenda (s : State) : s.draw.agenda = s.agenda := rfl
@[simp] theorem State.draw_drawn (s : State) : s.draw.drawn = s.drawn + 1 := rfl
@[simp] theorem State.draw_out (s : State) : s.draw.out = s.out := rfl

/-! ### ACC.PUSH's append (R151) -/

@[simp] theorem State.accAppend_params (s : State) (c : Chunk) : (s.accAppend c).params = s.params := rfl
@[simp] theorem State.accAppend_cfg (s : State) (c : Chunk) : (s.accAppend c).cfg = s.cfg := rfl
@[simp] theorem State.accAppend_acc (s : State) (c : Chunk) : (s.accAppend c).acc = s.acc ++ c := rfl
@[simp] theorem State.accAppend_blkIdx (s : State) (c : Chunk) : (s.accAppend c).blkIdx = s.blkIdx := rfl
@[simp] theorem State.accAppend_seq (s : State) (c : Chunk) : (s.accAppend c).seq = s.seq := rfl
@[simp] theorem State.accAppend_ctxSeq (s : State) (c : Chunk) : (s.accAppend c).ctxSeq = s.ctxSeq := rfl
@[simp] theorem State.accAppend_t0 (s : State) (c : Chunk) : (s.accAppend c).t0 = s.t0 := rfl
@[simp] theorem State.accAppend_oHold (s : State) (c : Chunk) : (s.accAppend c).oHold = s.oHold := rfl
@[simp] theorem State.accAppend_rlOutLast (s : State) (c : Chunk) : (s.accAppend c).rlOutLast = s.rlOutLast := rfl
@[simp] theorem State.accAppend_rlCtxLast (s : State) (c : Chunk) : (s.accAppend c).rlCtxLast = s.rlCtxLast := rfl
@[simp] theorem State.accAppend_mtr (s : State) (c : Chunk) : (s.accAppend c).mtr = s.mtr := rfl
@[simp] theorem State.accAppend_iq (s : State) (c : Chunk) : (s.accAppend c).iq = s.iq := rfl
@[simp] theorem State.accAppend_dq (s : State) (c : Chunk) : (s.accAppend c).dq = s.dq := rfl
@[simp] theorem State.accAppend_oq (s : State) (c : Chunk) : (s.accAppend c).oq = s.oq := rfl
@[simp] theorem State.accAppend_pState (s : State) (c : Chunk) : (s.accAppend c).pState = s.pState := rfl
@[simp] theorem State.accAppend_oState (s : State) (c : Chunk) : (s.accAppend c).oState = s.oState := rfl
@[simp] theorem State.accAppend_cState (s : State) (c : Chunk) : (s.accAppend c).cState = s.cState := rfl
@[simp] theorem State.accAppend_running (s : State) (c : Chunk) : (s.accAppend c).running = s.running := rfl
@[simp] theorem State.accAppend_cfgErr (s : State) (c : Chunk) : (s.accAppend c).cfgErr = s.cfgErr := rfl
@[simp] theorem State.accAppend_stopReq (s : State) (c : Chunk) : (s.accAppend c).stopReq = s.stopReq := rfl
@[simp] theorem State.accAppend_degraded (s : State) (c : Chunk) : (s.accAppend c).degraded = s.degraded := rfl
@[simp] theorem State.accAppend_dropDq (s : State) (c : Chunk) : (s.accAppend c).dropDq = s.dropDq := rfl
@[simp] theorem State.accAppend_dropOq (s : State) (c : Chunk) : (s.accAppend c).dropOq = s.dropOq := rfl
@[simp] theorem State.accAppend_decFail (s : State) (c : Chunk) : (s.accAppend c).decFail = s.decFail := rfl
@[simp] theorem State.accAppend_encFail (s : State) (c : Chunk) : (s.accAppend c).encFail = s.encFail := rfl
@[simp] theorem State.accAppend_errCode (s : State) (c : Chunk) : (s.accAppend c).errCode = s.errCode := rfl
@[simp] theorem State.accAppend_errOp (s : State) (c : Chunk) : (s.accAppend c).errOp = s.errOp := rfl
@[simp] theorem State.accAppend_dropDqCnt (s : State) (c : Chunk) : (s.accAppend c).dropDqCnt = s.dropDqCnt := rfl
@[simp] theorem State.accAppend_dropOqCnt (s : State) (c : Chunk) : (s.accAppend c).dropOqCnt = s.dropOqCnt := rfl
@[simp] theorem State.accAppend_decFailCnt (s : State) (c : Chunk) : (s.accAppend c).decFailCnt = s.decFailCnt := rfl
@[simp] theorem State.accAppend_now (s : State) (c : Chunk) : (s.accAppend c).now = s.now := rfl
@[simp] theorem State.accAppend_agenda (s : State) (c : Chunk) : (s.accAppend c).agenda = s.agenda := rfl
@[simp] theorem State.accAppend_drawn (s : State) (c : Chunk) : (s.accAppend c).drawn = s.drawn := rfl
@[simp] theorem State.accAppend_out (s : State) (c : Chunk) : (s.accAppend c).out = s.out := rfl

/-! ### A drop at `DQ` (R195, R238) -/

@[simp] theorem State.countDropDq_params (s : State) : s.countDropDq.params = s.params := rfl
@[simp] theorem State.countDropDq_cfg (s : State) : s.countDropDq.cfg = s.cfg := rfl
@[simp] theorem State.countDropDq_acc (s : State) : s.countDropDq.acc = s.acc := rfl
@[simp] theorem State.countDropDq_blkIdx (s : State) : s.countDropDq.blkIdx = s.blkIdx := rfl
@[simp] theorem State.countDropDq_seq (s : State) : s.countDropDq.seq = s.seq := rfl
@[simp] theorem State.countDropDq_ctxSeq (s : State) : s.countDropDq.ctxSeq = s.ctxSeq := rfl
@[simp] theorem State.countDropDq_t0 (s : State) : s.countDropDq.t0 = s.t0 := rfl
@[simp] theorem State.countDropDq_oHold (s : State) : s.countDropDq.oHold = s.oHold := rfl
@[simp] theorem State.countDropDq_rlOutLast (s : State) : s.countDropDq.rlOutLast = s.rlOutLast := rfl
@[simp] theorem State.countDropDq_rlCtxLast (s : State) : s.countDropDq.rlCtxLast = s.rlCtxLast := rfl
@[simp] theorem State.countDropDq_mtr (s : State) : s.countDropDq.mtr = s.mtr := rfl
@[simp] theorem State.countDropDq_iq (s : State) : s.countDropDq.iq = s.iq := rfl
@[simp] theorem State.countDropDq_dq (s : State) : s.countDropDq.dq = s.dq := rfl
@[simp] theorem State.countDropDq_oq (s : State) : s.countDropDq.oq = s.oq := rfl
@[simp] theorem State.countDropDq_pState (s : State) : s.countDropDq.pState = s.pState := rfl
@[simp] theorem State.countDropDq_oState (s : State) : s.countDropDq.oState = s.oState := rfl
@[simp] theorem State.countDropDq_cState (s : State) : s.countDropDq.cState = s.cState := rfl
@[simp] theorem State.countDropDq_running (s : State) : s.countDropDq.running = s.running := rfl
@[simp] theorem State.countDropDq_cfgErr (s : State) : s.countDropDq.cfgErr = s.cfgErr := rfl
@[simp] theorem State.countDropDq_stopReq (s : State) : s.countDropDq.stopReq = s.stopReq := rfl
@[simp] theorem State.countDropDq_degraded (s : State) : s.countDropDq.degraded = s.degraded := rfl
@[simp] theorem State.countDropDq_dropDq (s : State) : s.countDropDq.dropDq = true := rfl
@[simp] theorem State.countDropDq_dropOq (s : State) : s.countDropDq.dropOq = s.dropOq := rfl
@[simp] theorem State.countDropDq_decFail (s : State) : s.countDropDq.decFail = s.decFail := rfl
@[simp] theorem State.countDropDq_encFail (s : State) : s.countDropDq.encFail = s.encFail := rfl
@[simp] theorem State.countDropDq_errCode (s : State) : s.countDropDq.errCode = s.errCode := rfl
@[simp] theorem State.countDropDq_errOp (s : State) : s.countDropDq.errOp = s.errOp := rfl
@[simp] theorem State.countDropDq_dropDqCnt (s : State) : s.countDropDq.dropDqCnt = satInc s.dropDqCnt := rfl
@[simp] theorem State.countDropDq_dropOqCnt (s : State) : s.countDropDq.dropOqCnt = s.dropOqCnt := rfl
@[simp] theorem State.countDropDq_decFailCnt (s : State) : s.countDropDq.decFailCnt = s.decFailCnt := rfl
@[simp] theorem State.countDropDq_now (s : State) : s.countDropDq.now = s.now := rfl
@[simp] theorem State.countDropDq_agenda (s : State) : s.countDropDq.agenda = s.agenda := rfl
@[simp] theorem State.countDropDq_drawn (s : State) : s.countDropDq.drawn = s.drawn := rfl
@[simp] theorem State.countDropDq_out (s : State) : s.countDropDq.out = s.out := rfl

/-! ### A drop at `OQ` (R195, R238) -/

@[simp] theorem State.countDropOq_params (s : State) : s.countDropOq.params = s.params := rfl
@[simp] theorem State.countDropOq_cfg (s : State) : s.countDropOq.cfg = s.cfg := rfl
@[simp] theorem State.countDropOq_acc (s : State) : s.countDropOq.acc = s.acc := rfl
@[simp] theorem State.countDropOq_blkIdx (s : State) : s.countDropOq.blkIdx = s.blkIdx := rfl
@[simp] theorem State.countDropOq_seq (s : State) : s.countDropOq.seq = s.seq := rfl
@[simp] theorem State.countDropOq_ctxSeq (s : State) : s.countDropOq.ctxSeq = s.ctxSeq := rfl
@[simp] theorem State.countDropOq_t0 (s : State) : s.countDropOq.t0 = s.t0 := rfl
@[simp] theorem State.countDropOq_oHold (s : State) : s.countDropOq.oHold = s.oHold := rfl
@[simp] theorem State.countDropOq_rlOutLast (s : State) : s.countDropOq.rlOutLast = s.rlOutLast := rfl
@[simp] theorem State.countDropOq_rlCtxLast (s : State) : s.countDropOq.rlCtxLast = s.rlCtxLast := rfl
@[simp] theorem State.countDropOq_mtr (s : State) : s.countDropOq.mtr = s.mtr := rfl
@[simp] theorem State.countDropOq_iq (s : State) : s.countDropOq.iq = s.iq := rfl
@[simp] theorem State.countDropOq_dq (s : State) : s.countDropOq.dq = s.dq := rfl
@[simp] theorem State.countDropOq_oq (s : State) : s.countDropOq.oq = s.oq := rfl
@[simp] theorem State.countDropOq_pState (s : State) : s.countDropOq.pState = s.pState := rfl
@[simp] theorem State.countDropOq_oState (s : State) : s.countDropOq.oState = s.oState := rfl
@[simp] theorem State.countDropOq_cState (s : State) : s.countDropOq.cState = s.cState := rfl
@[simp] theorem State.countDropOq_running (s : State) : s.countDropOq.running = s.running := rfl
@[simp] theorem State.countDropOq_cfgErr (s : State) : s.countDropOq.cfgErr = s.cfgErr := rfl
@[simp] theorem State.countDropOq_stopReq (s : State) : s.countDropOq.stopReq = s.stopReq := rfl
@[simp] theorem State.countDropOq_degraded (s : State) : s.countDropOq.degraded = s.degraded := rfl
@[simp] theorem State.countDropOq_dropDq (s : State) : s.countDropOq.dropDq = s.dropDq := rfl
@[simp] theorem State.countDropOq_dropOq (s : State) : s.countDropOq.dropOq = true := rfl
@[simp] theorem State.countDropOq_decFail (s : State) : s.countDropOq.decFail = s.decFail := rfl
@[simp] theorem State.countDropOq_encFail (s : State) : s.countDropOq.encFail = s.encFail := rfl
@[simp] theorem State.countDropOq_errCode (s : State) : s.countDropOq.errCode = s.errCode := rfl
@[simp] theorem State.countDropOq_errOp (s : State) : s.countDropOq.errOp = s.errOp := rfl
@[simp] theorem State.countDropOq_dropDqCnt (s : State) : s.countDropOq.dropDqCnt = s.dropDqCnt := rfl
@[simp] theorem State.countDropOq_dropOqCnt (s : State) : s.countDropOq.dropOqCnt = satInc s.dropOqCnt := rfl
@[simp] theorem State.countDropOq_decFailCnt (s : State) : s.countDropOq.decFailCnt = s.decFailCnt := rfl
@[simp] theorem State.countDropOq_now (s : State) : s.countDropOq.now = s.now := rfl
@[simp] theorem State.countDropOq_agenda (s : State) : s.countDropOq.agenda = s.agenda := rfl
@[simp] theorem State.countDropOq_drawn (s : State) : s.countDropOq.drawn = s.drawn := rfl
@[simp] theorem State.countDropOq_out (s : State) : s.countDropOq.out = s.out := rfl

/-! ### Presenting a transfer (log 1) -/

@[simp] theorem State.present_params (s : State) (t : Transfer) : (s.present t).params = s.params := rfl
@[simp] theorem State.present_cfg (s : State) (t : Transfer) : (s.present t).cfg = s.cfg := rfl
@[simp] theorem State.present_acc (s : State) (t : Transfer) : (s.present t).acc = s.acc := rfl
@[simp] theorem State.present_blkIdx (s : State) (t : Transfer) : (s.present t).blkIdx = s.blkIdx := rfl
@[simp] theorem State.present_seq (s : State) (t : Transfer) : (s.present t).seq = s.seq := rfl
@[simp] theorem State.present_ctxSeq (s : State) (t : Transfer) : (s.present t).ctxSeq = s.ctxSeq := rfl
@[simp] theorem State.present_t0 (s : State) (t : Transfer) : (s.present t).t0 = s.t0 := rfl
@[simp] theorem State.present_oHold (s : State) (t : Transfer) : (s.present t).oHold = s.oHold := rfl
@[simp] theorem State.present_rlOutLast (s : State) (t : Transfer) : (s.present t).rlOutLast = s.rlOutLast := rfl
@[simp] theorem State.present_rlCtxLast (s : State) (t : Transfer) : (s.present t).rlCtxLast = s.rlCtxLast := rfl
@[simp] theorem State.present_mtr (s : State) (t : Transfer) : (s.present t).mtr = s.mtr := rfl
@[simp] theorem State.present_iq (s : State) (t : Transfer) : (s.present t).iq = s.iq := rfl
@[simp] theorem State.present_dq (s : State) (t : Transfer) : (s.present t).dq = s.dq := rfl
@[simp] theorem State.present_oq (s : State) (t : Transfer) : (s.present t).oq = s.oq := rfl
@[simp] theorem State.present_pState (s : State) (t : Transfer) : (s.present t).pState = s.pState := rfl
@[simp] theorem State.present_oState (s : State) (t : Transfer) : (s.present t).oState = s.oState := rfl
@[simp] theorem State.present_cState (s : State) (t : Transfer) : (s.present t).cState = s.cState := rfl
@[simp] theorem State.present_running (s : State) (t : Transfer) : (s.present t).running = s.running := rfl
@[simp] theorem State.present_cfgErr (s : State) (t : Transfer) : (s.present t).cfgErr = s.cfgErr := rfl
@[simp] theorem State.present_stopReq (s : State) (t : Transfer) : (s.present t).stopReq = s.stopReq := rfl
@[simp] theorem State.present_degraded (s : State) (t : Transfer) : (s.present t).degraded = s.degraded := rfl
@[simp] theorem State.present_dropDq (s : State) (t : Transfer) : (s.present t).dropDq = s.dropDq := rfl
@[simp] theorem State.present_dropOq (s : State) (t : Transfer) : (s.present t).dropOq = s.dropOq := rfl
@[simp] theorem State.present_decFail (s : State) (t : Transfer) : (s.present t).decFail = s.decFail := rfl
@[simp] theorem State.present_encFail (s : State) (t : Transfer) : (s.present t).encFail = s.encFail := rfl
@[simp] theorem State.present_errCode (s : State) (t : Transfer) : (s.present t).errCode = s.errCode := rfl
@[simp] theorem State.present_errOp (s : State) (t : Transfer) : (s.present t).errOp = s.errOp := rfl
@[simp] theorem State.present_dropDqCnt (s : State) (t : Transfer) : (s.present t).dropDqCnt = s.dropDqCnt := rfl
@[simp] theorem State.present_dropOqCnt (s : State) (t : Transfer) : (s.present t).dropOqCnt = s.dropOqCnt := rfl
@[simp] theorem State.present_decFailCnt (s : State) (t : Transfer) : (s.present t).decFailCnt = s.decFailCnt := rfl
@[simp] theorem State.present_now (s : State) (t : Transfer) : (s.present t).now = s.now := rfl
@[simp] theorem State.present_agenda (s : State) (t : Transfer) : (s.present t).agenda = t :: s.agenda := rfl
@[simp] theorem State.present_drawn (s : State) (t : Transfer) : (s.present t).drawn = s.drawn := rfl
@[simp] theorem State.present_out (s : State) (t : Transfer) : (s.present t).out = s.out := rfl

/-! ### RL.MARK of the output limiter (R161) -/

@[simp] theorem State.markOut_params (s : State) : (s.mark .out).params = s.params := rfl
@[simp] theorem State.markOut_cfg (s : State) : (s.mark .out).cfg = s.cfg := rfl
@[simp] theorem State.markOut_acc (s : State) : (s.mark .out).acc = s.acc := rfl
@[simp] theorem State.markOut_blkIdx (s : State) : (s.mark .out).blkIdx = s.blkIdx := rfl
@[simp] theorem State.markOut_seq (s : State) : (s.mark .out).seq = s.seq := rfl
@[simp] theorem State.markOut_ctxSeq (s : State) : (s.mark .out).ctxSeq = s.ctxSeq := rfl
@[simp] theorem State.markOut_t0 (s : State) : (s.mark .out).t0 = s.t0 := rfl
@[simp] theorem State.markOut_oHold (s : State) : (s.mark .out).oHold = s.oHold := rfl
@[simp] theorem State.markOut_rlOutLast (s : State) : (s.mark .out).rlOutLast = some s.now := rfl
@[simp] theorem State.markOut_rlCtxLast (s : State) : (s.mark .out).rlCtxLast = s.rlCtxLast := rfl
@[simp] theorem State.markOut_mtr (s : State) : (s.mark .out).mtr = s.mtr := rfl
@[simp] theorem State.markOut_iq (s : State) : (s.mark .out).iq = s.iq := rfl
@[simp] theorem State.markOut_dq (s : State) : (s.mark .out).dq = s.dq := rfl
@[simp] theorem State.markOut_oq (s : State) : (s.mark .out).oq = s.oq := rfl
@[simp] theorem State.markOut_pState (s : State) : (s.mark .out).pState = s.pState := rfl
@[simp] theorem State.markOut_oState (s : State) : (s.mark .out).oState = s.oState := rfl
@[simp] theorem State.markOut_cState (s : State) : (s.mark .out).cState = s.cState := rfl
@[simp] theorem State.markOut_running (s : State) : (s.mark .out).running = s.running := rfl
@[simp] theorem State.markOut_cfgErr (s : State) : (s.mark .out).cfgErr = s.cfgErr := rfl
@[simp] theorem State.markOut_stopReq (s : State) : (s.mark .out).stopReq = s.stopReq := rfl
@[simp] theorem State.markOut_degraded (s : State) : (s.mark .out).degraded = s.degraded := rfl
@[simp] theorem State.markOut_dropDq (s : State) : (s.mark .out).dropDq = s.dropDq := rfl
@[simp] theorem State.markOut_dropOq (s : State) : (s.mark .out).dropOq = s.dropOq := rfl
@[simp] theorem State.markOut_decFail (s : State) : (s.mark .out).decFail = s.decFail := rfl
@[simp] theorem State.markOut_encFail (s : State) : (s.mark .out).encFail = s.encFail := rfl
@[simp] theorem State.markOut_errCode (s : State) : (s.mark .out).errCode = s.errCode := rfl
@[simp] theorem State.markOut_errOp (s : State) : (s.mark .out).errOp = s.errOp := rfl
@[simp] theorem State.markOut_dropDqCnt (s : State) : (s.mark .out).dropDqCnt = s.dropDqCnt := rfl
@[simp] theorem State.markOut_dropOqCnt (s : State) : (s.mark .out).dropOqCnt = s.dropOqCnt := rfl
@[simp] theorem State.markOut_decFailCnt (s : State) : (s.mark .out).decFailCnt = s.decFailCnt := rfl
@[simp] theorem State.markOut_now (s : State) : (s.mark .out).now = s.now := rfl
@[simp] theorem State.markOut_agenda (s : State) : (s.mark .out).agenda = s.agenda := rfl
@[simp] theorem State.markOut_drawn (s : State) : (s.mark .out).drawn = s.drawn := rfl
@[simp] theorem State.markOut_out (s : State) : (s.mark .out).out = s.out := rfl

/-! ### RL.MARK of the context limiter (R161) -/

@[simp] theorem State.markCtx_params (s : State) : (s.mark .ctx).params = s.params := rfl
@[simp] theorem State.markCtx_cfg (s : State) : (s.mark .ctx).cfg = s.cfg := rfl
@[simp] theorem State.markCtx_acc (s : State) : (s.mark .ctx).acc = s.acc := rfl
@[simp] theorem State.markCtx_blkIdx (s : State) : (s.mark .ctx).blkIdx = s.blkIdx := rfl
@[simp] theorem State.markCtx_seq (s : State) : (s.mark .ctx).seq = s.seq := rfl
@[simp] theorem State.markCtx_ctxSeq (s : State) : (s.mark .ctx).ctxSeq = s.ctxSeq := rfl
@[simp] theorem State.markCtx_t0 (s : State) : (s.mark .ctx).t0 = s.t0 := rfl
@[simp] theorem State.markCtx_oHold (s : State) : (s.mark .ctx).oHold = s.oHold := rfl
@[simp] theorem State.markCtx_rlOutLast (s : State) : (s.mark .ctx).rlOutLast = s.rlOutLast := rfl
@[simp] theorem State.markCtx_rlCtxLast (s : State) : (s.mark .ctx).rlCtxLast = some s.now := rfl
@[simp] theorem State.markCtx_mtr (s : State) : (s.mark .ctx).mtr = s.mtr := rfl
@[simp] theorem State.markCtx_iq (s : State) : (s.mark .ctx).iq = s.iq := rfl
@[simp] theorem State.markCtx_dq (s : State) : (s.mark .ctx).dq = s.dq := rfl
@[simp] theorem State.markCtx_oq (s : State) : (s.mark .ctx).oq = s.oq := rfl
@[simp] theorem State.markCtx_pState (s : State) : (s.mark .ctx).pState = s.pState := rfl
@[simp] theorem State.markCtx_oState (s : State) : (s.mark .ctx).oState = s.oState := rfl
@[simp] theorem State.markCtx_cState (s : State) : (s.mark .ctx).cState = s.cState := rfl
@[simp] theorem State.markCtx_running (s : State) : (s.mark .ctx).running = s.running := rfl
@[simp] theorem State.markCtx_cfgErr (s : State) : (s.mark .ctx).cfgErr = s.cfgErr := rfl
@[simp] theorem State.markCtx_stopReq (s : State) : (s.mark .ctx).stopReq = s.stopReq := rfl
@[simp] theorem State.markCtx_degraded (s : State) : (s.mark .ctx).degraded = s.degraded := rfl
@[simp] theorem State.markCtx_dropDq (s : State) : (s.mark .ctx).dropDq = s.dropDq := rfl
@[simp] theorem State.markCtx_dropOq (s : State) : (s.mark .ctx).dropOq = s.dropOq := rfl
@[simp] theorem State.markCtx_decFail (s : State) : (s.mark .ctx).decFail = s.decFail := rfl
@[simp] theorem State.markCtx_encFail (s : State) : (s.mark .ctx).encFail = s.encFail := rfl
@[simp] theorem State.markCtx_errCode (s : State) : (s.mark .ctx).errCode = s.errCode := rfl
@[simp] theorem State.markCtx_errOp (s : State) : (s.mark .ctx).errOp = s.errOp := rfl
@[simp] theorem State.markCtx_dropDqCnt (s : State) : (s.mark .ctx).dropDqCnt = s.dropDqCnt := rfl
@[simp] theorem State.markCtx_dropOqCnt (s : State) : (s.mark .ctx).dropOqCnt = s.dropOqCnt := rfl
@[simp] theorem State.markCtx_decFailCnt (s : State) : (s.mark .ctx).decFailCnt = s.decFailCnt := rfl
@[simp] theorem State.markCtx_now (s : State) : (s.mark .ctx).now = s.now := rfl
@[simp] theorem State.markCtx_agenda (s : State) : (s.mark .ctx).agenda = s.agenda := rfl
@[simp] theorem State.markCtx_drawn (s : State) : (s.mark .ctx).drawn = s.drawn := rfl
@[simp] theorem State.markCtx_out (s : State) : (s.mark .ctx).out = s.out := rfl

/-! ### START's failure (R235) -/

@[simp] theorem State.startFailed_params (s : State) (e : ErrCode) : (s.startFailed e).params = s.params := rfl
@[simp] theorem State.startFailed_cfg (s : State) (e : ErrCode) : (s.startFailed e).cfg = s.cfg := rfl
@[simp] theorem State.startFailed_acc (s : State) (e : ErrCode) : (s.startFailed e).acc = s.acc := rfl
@[simp] theorem State.startFailed_blkIdx (s : State) (e : ErrCode) : (s.startFailed e).blkIdx = s.blkIdx := rfl
@[simp] theorem State.startFailed_seq (s : State) (e : ErrCode) : (s.startFailed e).seq = s.seq := rfl
@[simp] theorem State.startFailed_ctxSeq (s : State) (e : ErrCode) : (s.startFailed e).ctxSeq = s.ctxSeq := rfl
@[simp] theorem State.startFailed_t0 (s : State) (e : ErrCode) : (s.startFailed e).t0 = s.t0 := rfl
@[simp] theorem State.startFailed_oHold (s : State) (e : ErrCode) : (s.startFailed e).oHold = s.oHold := rfl
@[simp] theorem State.startFailed_rlOutLast (s : State) (e : ErrCode) : (s.startFailed e).rlOutLast = s.rlOutLast := rfl
@[simp] theorem State.startFailed_rlCtxLast (s : State) (e : ErrCode) : (s.startFailed e).rlCtxLast = s.rlCtxLast := rfl
@[simp] theorem State.startFailed_mtr (s : State) (e : ErrCode) : (s.startFailed e).mtr = s.mtr := rfl
@[simp] theorem State.startFailed_iq (s : State) (e : ErrCode) : (s.startFailed e).iq = s.iq := rfl
@[simp] theorem State.startFailed_dq (s : State) (e : ErrCode) : (s.startFailed e).dq = s.dq := rfl
@[simp] theorem State.startFailed_oq (s : State) (e : ErrCode) : (s.startFailed e).oq = s.oq := rfl
@[simp] theorem State.startFailed_pState (s : State) (e : ErrCode) : (s.startFailed e).pState = s.pState := rfl
@[simp] theorem State.startFailed_oState (s : State) (e : ErrCode) : (s.startFailed e).oState = s.oState := rfl
@[simp] theorem State.startFailed_cState (s : State) (e : ErrCode) : (s.startFailed e).cState = s.cState := rfl
@[simp] theorem State.startFailed_running (s : State) (e : ErrCode) : (s.startFailed e).running = s.running := rfl
@[simp] theorem State.startFailed_cfgErr (s : State) (e : ErrCode) : (s.startFailed e).cfgErr = true := rfl
@[simp] theorem State.startFailed_stopReq (s : State) (e : ErrCode) : (s.startFailed e).stopReq = s.stopReq := rfl
@[simp] theorem State.startFailed_degraded (s : State) (e : ErrCode) : (s.startFailed e).degraded = s.degraded := rfl
@[simp] theorem State.startFailed_dropDq (s : State) (e : ErrCode) : (s.startFailed e).dropDq = s.dropDq := rfl
@[simp] theorem State.startFailed_dropOq (s : State) (e : ErrCode) : (s.startFailed e).dropOq = s.dropOq := rfl
@[simp] theorem State.startFailed_decFail (s : State) (e : ErrCode) : (s.startFailed e).decFail = s.decFail := rfl
@[simp] theorem State.startFailed_encFail (s : State) (e : ErrCode) : (s.startFailed e).encFail = s.encFail := rfl
@[simp] theorem State.startFailed_errCode (s : State) (e : ErrCode) : (s.startFailed e).errCode = e.code := rfl
@[simp] theorem State.startFailed_errOp (s : State) (e : ErrCode) : (s.startFailed e).errOp = opStart := rfl
@[simp] theorem State.startFailed_dropDqCnt (s : State) (e : ErrCode) : (s.startFailed e).dropDqCnt = s.dropDqCnt := rfl
@[simp] theorem State.startFailed_dropOqCnt (s : State) (e : ErrCode) : (s.startFailed e).dropOqCnt = s.dropOqCnt := rfl
@[simp] theorem State.startFailed_decFailCnt (s : State) (e : ErrCode) : (s.startFailed e).decFailCnt = s.decFailCnt := rfl
@[simp] theorem State.startFailed_now (s : State) (e : ErrCode) : (s.startFailed e).now = s.now := rfl
@[simp] theorem State.startFailed_agenda (s : State) (e : ErrCode) : (s.startFailed e).agenda = s.agenda := rfl
@[simp] theorem State.startFailed_drawn (s : State) (e : ErrCode) : (s.startFailed e).drawn = s.drawn := rfl
@[simp] theorem State.startFailed_out (s : State) (e : ErrCode) : (s.startFailed e).out = s.out := rfl

/-! ### Recording an error (R31, R243) -/

@[simp] theorem State.recordError_params (s : State) (e : ErrCode) (op : BitVec 8) : (s.recordError e op).params = s.params := by
  unfold State.recordError; split <;> rfl
@[simp] theorem State.recordError_cfg (s : State) (e : ErrCode) (op : BitVec 8) : (s.recordError e op).cfg = s.cfg := by
  unfold State.recordError; split <;> rfl
@[simp] theorem State.recordError_acc (s : State) (e : ErrCode) (op : BitVec 8) : (s.recordError e op).acc = s.acc := by
  unfold State.recordError; split <;> rfl
@[simp] theorem State.recordError_blkIdx (s : State) (e : ErrCode) (op : BitVec 8) : (s.recordError e op).blkIdx = s.blkIdx := by
  unfold State.recordError; split <;> rfl
@[simp] theorem State.recordError_seq (s : State) (e : ErrCode) (op : BitVec 8) : (s.recordError e op).seq = s.seq := by
  unfold State.recordError; split <;> rfl
@[simp] theorem State.recordError_ctxSeq (s : State) (e : ErrCode) (op : BitVec 8) : (s.recordError e op).ctxSeq = s.ctxSeq := by
  unfold State.recordError; split <;> rfl
@[simp] theorem State.recordError_t0 (s : State) (e : ErrCode) (op : BitVec 8) : (s.recordError e op).t0 = s.t0 := by
  unfold State.recordError; split <;> rfl
@[simp] theorem State.recordError_oHold (s : State) (e : ErrCode) (op : BitVec 8) : (s.recordError e op).oHold = s.oHold := by
  unfold State.recordError; split <;> rfl
@[simp] theorem State.recordError_rlOutLast (s : State) (e : ErrCode) (op : BitVec 8) : (s.recordError e op).rlOutLast = s.rlOutLast := by
  unfold State.recordError; split <;> rfl
@[simp] theorem State.recordError_rlCtxLast (s : State) (e : ErrCode) (op : BitVec 8) : (s.recordError e op).rlCtxLast = s.rlCtxLast := by
  unfold State.recordError; split <;> rfl
@[simp] theorem State.recordError_mtr (s : State) (e : ErrCode) (op : BitVec 8) : (s.recordError e op).mtr = s.mtr := by
  unfold State.recordError; split <;> rfl
@[simp] theorem State.recordError_iq (s : State) (e : ErrCode) (op : BitVec 8) : (s.recordError e op).iq = s.iq := by
  unfold State.recordError; split <;> rfl
@[simp] theorem State.recordError_dq (s : State) (e : ErrCode) (op : BitVec 8) : (s.recordError e op).dq = s.dq := by
  unfold State.recordError; split <;> rfl
@[simp] theorem State.recordError_oq (s : State) (e : ErrCode) (op : BitVec 8) : (s.recordError e op).oq = s.oq := by
  unfold State.recordError; split <;> rfl
@[simp] theorem State.recordError_pState (s : State) (e : ErrCode) (op : BitVec 8) : (s.recordError e op).pState = s.pState := by
  unfold State.recordError; split <;> rfl
@[simp] theorem State.recordError_oState (s : State) (e : ErrCode) (op : BitVec 8) : (s.recordError e op).oState = s.oState := by
  unfold State.recordError; split <;> rfl
@[simp] theorem State.recordError_cState (s : State) (e : ErrCode) (op : BitVec 8) : (s.recordError e op).cState = s.cState := by
  unfold State.recordError; split <;> rfl
@[simp] theorem State.recordError_running (s : State) (e : ErrCode) (op : BitVec 8) : (s.recordError e op).running = s.running := by
  unfold State.recordError; split <;> rfl
@[simp] theorem State.recordError_cfgErr (s : State) (e : ErrCode) (op : BitVec 8) : (s.recordError e op).cfgErr = s.cfgErr := by
  unfold State.recordError; split <;> rfl
@[simp] theorem State.recordError_stopReq (s : State) (e : ErrCode) (op : BitVec 8) : (s.recordError e op).stopReq = s.stopReq := by
  unfold State.recordError; split <;> rfl
@[simp] theorem State.recordError_degraded (s : State) (e : ErrCode) (op : BitVec 8) : (s.recordError e op).degraded = s.degraded := by
  unfold State.recordError; split <;> rfl
@[simp] theorem State.recordError_dropDq (s : State) (e : ErrCode) (op : BitVec 8) : (s.recordError e op).dropDq = s.dropDq := by
  unfold State.recordError; split <;> rfl
@[simp] theorem State.recordError_dropOq (s : State) (e : ErrCode) (op : BitVec 8) : (s.recordError e op).dropOq = s.dropOq := by
  unfold State.recordError; split <;> rfl
@[simp] theorem State.recordError_decFail (s : State) (e : ErrCode) (op : BitVec 8) : (s.recordError e op).decFail = s.decFail := by
  unfold State.recordError; split <;> rfl
@[simp] theorem State.recordError_encFail (s : State) (e : ErrCode) (op : BitVec 8) : (s.recordError e op).encFail = s.encFail := by
  unfold State.recordError; split <;> rfl
@[simp] theorem State.recordError_errCode (s : State) (e : ErrCode) (op : BitVec 8) : (s.recordError e op).errCode = if s.errCode = 0 then e.code else s.errCode := by
  unfold State.recordError; split <;> simp_all
@[simp] theorem State.recordError_errOp (s : State) (e : ErrCode) (op : BitVec 8) : (s.recordError e op).errOp = if s.errCode = 0 then op else s.errOp := by
  unfold State.recordError; split <;> simp_all
@[simp] theorem State.recordError_dropDqCnt (s : State) (e : ErrCode) (op : BitVec 8) : (s.recordError e op).dropDqCnt = s.dropDqCnt := by
  unfold State.recordError; split <;> rfl
@[simp] theorem State.recordError_dropOqCnt (s : State) (e : ErrCode) (op : BitVec 8) : (s.recordError e op).dropOqCnt = s.dropOqCnt := by
  unfold State.recordError; split <;> rfl
@[simp] theorem State.recordError_decFailCnt (s : State) (e : ErrCode) (op : BitVec 8) : (s.recordError e op).decFailCnt = s.decFailCnt := by
  unfold State.recordError; split <;> rfl
@[simp] theorem State.recordError_now (s : State) (e : ErrCode) (op : BitVec 8) : (s.recordError e op).now = s.now := by
  unfold State.recordError; split <;> rfl
@[simp] theorem State.recordError_agenda (s : State) (e : ErrCode) (op : BitVec 8) : (s.recordError e op).agenda = s.agenda := by
  unfold State.recordError; split <;> rfl
@[simp] theorem State.recordError_drawn (s : State) (e : ErrCode) (op : BitVec 8) : (s.recordError e op).drawn = s.drawn := by
  unfold State.recordError; split <;> rfl
@[simp] theorem State.recordError_out (s : State) (e : ErrCode) (op : BitVec 8) : (s.recordError e op).out = s.out := by
  unfold State.recordError; split <;> rfl

/-! ### The end of a stop (R199) -/

@[simp] theorem State.completeStop_params (s : State) : s.completeStop.params = s.params := by
  unfold State.completeStop; split <;> rfl
@[simp] theorem State.completeStop_cfg (s : State) : s.completeStop.cfg = s.cfg := by
  unfold State.completeStop; split <;> rfl
@[simp] theorem State.completeStop_acc (s : State) : s.completeStop.acc = s.acc := by
  unfold State.completeStop; split <;> rfl
@[simp] theorem State.completeStop_blkIdx (s : State) : s.completeStop.blkIdx = s.blkIdx := by
  unfold State.completeStop; split <;> rfl
@[simp] theorem State.completeStop_seq (s : State) : s.completeStop.seq = s.seq := by
  unfold State.completeStop; split <;> rfl
@[simp] theorem State.completeStop_ctxSeq (s : State) : s.completeStop.ctxSeq = s.ctxSeq := by
  unfold State.completeStop; split <;> rfl
@[simp] theorem State.completeStop_t0 (s : State) : s.completeStop.t0 = s.t0 := by
  unfold State.completeStop; split <;> rfl
@[simp] theorem State.completeStop_oHold (s : State) : s.completeStop.oHold = s.oHold := by
  unfold State.completeStop; split <;> rfl
@[simp] theorem State.completeStop_rlOutLast (s : State) : s.completeStop.rlOutLast = s.rlOutLast := by
  unfold State.completeStop; split <;> rfl
@[simp] theorem State.completeStop_rlCtxLast (s : State) : s.completeStop.rlCtxLast = s.rlCtxLast := by
  unfold State.completeStop; split <;> rfl
@[simp] theorem State.completeStop_mtr (s : State) : s.completeStop.mtr = s.mtr := by
  unfold State.completeStop; split <;> rfl
@[simp] theorem State.completeStop_iq (s : State) : s.completeStop.iq = s.iq := by
  unfold State.completeStop; split <;> rfl
@[simp] theorem State.completeStop_dq (s : State) : s.completeStop.dq = s.dq := by
  unfold State.completeStop; split <;> rfl
@[simp] theorem State.completeStop_oq (s : State) : s.completeStop.oq = s.oq := by
  unfold State.completeStop; split <;> rfl
@[simp] theorem State.completeStop_pState (s : State) : s.completeStop.pState = s.pState := by
  unfold State.completeStop; split <;> rfl
@[simp] theorem State.completeStop_oState (s : State) : s.completeStop.oState = s.oState := by
  unfold State.completeStop; split <;> rfl
@[simp] theorem State.completeStop_cState (s : State) : s.completeStop.cState = s.cState := by
  unfold State.completeStop; split <;> rfl
@[simp] theorem State.completeStop_running (s : State) : s.completeStop.running = if s.stopReq && s.allStagesOut then false else s.running := by
  unfold State.completeStop; split <;> simp_all
@[simp] theorem State.completeStop_cfgErr (s : State) : s.completeStop.cfgErr = s.cfgErr := by
  unfold State.completeStop; split <;> rfl
@[simp] theorem State.completeStop_stopReq (s : State) : s.completeStop.stopReq = s.stopReq := by
  unfold State.completeStop; split <;> rfl
@[simp] theorem State.completeStop_degraded (s : State) : s.completeStop.degraded = s.degraded := by
  unfold State.completeStop; split <;> rfl
@[simp] theorem State.completeStop_dropDq (s : State) : s.completeStop.dropDq = s.dropDq := by
  unfold State.completeStop; split <;> rfl
@[simp] theorem State.completeStop_dropOq (s : State) : s.completeStop.dropOq = s.dropOq := by
  unfold State.completeStop; split <;> rfl
@[simp] theorem State.completeStop_decFail (s : State) : s.completeStop.decFail = s.decFail := by
  unfold State.completeStop; split <;> rfl
@[simp] theorem State.completeStop_encFail (s : State) : s.completeStop.encFail = s.encFail := by
  unfold State.completeStop; split <;> rfl
@[simp] theorem State.completeStop_errCode (s : State) : s.completeStop.errCode = s.errCode := by
  unfold State.completeStop; split <;> rfl
@[simp] theorem State.completeStop_errOp (s : State) : s.completeStop.errOp = s.errOp := by
  unfold State.completeStop; split <;> rfl
@[simp] theorem State.completeStop_dropDqCnt (s : State) : s.completeStop.dropDqCnt = s.dropDqCnt := by
  unfold State.completeStop; split <;> rfl
@[simp] theorem State.completeStop_dropOqCnt (s : State) : s.completeStop.dropOqCnt = s.dropOqCnt := by
  unfold State.completeStop; split <;> rfl
@[simp] theorem State.completeStop_decFailCnt (s : State) : s.completeStop.decFailCnt = s.decFailCnt := by
  unfold State.completeStop; split <;> rfl
@[simp] theorem State.completeStop_now (s : State) : s.completeStop.now = s.now := by
  unfold State.completeStop; split <;> rfl
@[simp] theorem State.completeStop_agenda (s : State) : s.completeStop.agenda = s.agenda := by
  unfold State.completeStop; split <;> rfl
@[simp] theorem State.completeStop_drawn (s : State) : s.completeStop.drawn = s.drawn := by
  unfold State.completeStop; split <;> rfl
@[simp] theorem State.completeStop_out (s : State) : s.completeStop.out = s.out := by
  unfold State.completeStop; split <;> rfl

end Sys2Proof.Machine
end

