-- ==== Sys2Proof/Laws/Ops.lean ====
section
/-! SUPPORT. For each shared operation, one lemma that says once everything it can do. Proofs cite
these instead of unfolding the operation. -/

namespace Sys2Proof.Machine

/-! ### How a meaning ends -/

@[simp] theorem finish_eq_next (s t : State) (r : Result) :
    finish s r = .next t ↔ t = { s with out := r } := by
  unfold finish; constructor <;> intro h
  · injection h with h; exact h.symm
  · rw [h]

@[simp] theorem hold_eq_next (s t : State) : hold s = .next t ↔ t = { s with out := .held } := by
  simp [hold]

@[simp] theorem finishOrHold_none (s : State) : finishOrHold s none = hold s := rfl

@[simp] theorem finishOrHold_some (s : State) (a : State × Result) :
    finishOrHold s (some a) = finish a.1 a.2 := rfl

/-- `finishOrHold` either waits or completes, and never stops the machine. -/
theorem finishOrHold_cases {s t : State} {o : Option (State × Result)} (h : finishOrHold s o = .next t) :
    (o = none ∧ t = { s with out := .held }) ∨
      ∃ u r, o = some (u, r) ∧ t = { u with out := r } := by
  cases o with
  | none => exact .inl ⟨rfl, by simpa using h⟩
  | some a => exact .inr ⟨a.1, a.2, rfl, by simpa using h⟩

theorem finishOrHold_answers (s : State) (o : Option (State × Result)) :
    ∃ t, finishOrHold s o = .next t := by
  cases o <;> exact ⟨_, rfl⟩

/-- Nothing but a next state comes out of `afterStep` as a next state. -/
theorem afterStep_cases {o : Answer} {t : State} (h : afterStep o = .next t) :
    ∃ u, o = .next u ∧ t = u.completeStop := by
  cases o with
  | next u => exact ⟨u, rfl, by injection h with h; exact h.symm⟩
  | fault r => cases h
  | refused r => cases h

/-- `perform` answers a next state only for bytes that are an operation, and then as `exec` does. -/
theorem perform_cases {tr : Transfer} {s t : State} (h : perform tr s = .next t) :
    ∃ i u, decode tr = .ok i ∧ exec i s = .next u ∧ t = u.completeStop := by
  unfold perform at h
  split at h
  · cases h
  · next i hd =>
    obtain ⟨u, hu, ht⟩ := afterStep_cases h
    exact ⟨i, u, hd, hu, ht⟩

theorem step_eq (s : State) : step s = perform s.fetch.1 s.fetch.2 := rfl

/-- What the fetch leaves of the state: the agenda shortened, or one value drawn. -/
theorem fetch_cases (s : State) :
    (∃ t rest, s.agenda = t :: rest ∧ s.fetch = (t, { s with agenda := rest })) ∨
      (s.agenda = [] ∧ s.fetch = (Config.schedule s.drawn, s.draw)) := by
  cases h : s.agenda with
  | nil => exact .inr ⟨rfl, by simp [State.fetch, h]⟩
  | cons t rest => exact .inl ⟨t, rest, rfl, by simp [State.fetch, h]⟩

/-! ### Counters and stages -/

theorem satInc_toNat (c : BitVec 32) : (satInc c).toNat = min (c.toNat + 1) (2 ^ 32 - 1) := by
  simp only [satInc, BitVec.toNat_ofNat]
  exact Nat.mod_eq_of_lt (by omega)

theorem satInc_ne_zero (c : BitVec 32) : satInc c ≠ 0 := by
  intro h
  have := congrArg BitVec.toNat h
  rw [satInc_toNat] at this
  simp at this

theorem ErrCode.code_ne_zero (e : ErrCode) : e.code ≠ 0 := by cases e <;> decide

/-- Recording an error changes `ERR` alone, and only if it was empty. -/
theorem recordError_cases (s : State) (e : ErrCode) (op : BitVec 8) :
    (s.errCode = 0 ∧ s.recordError e op = { s with errCode := e.code, errOp := op }) ∨
      (s.errCode ≠ 0 ∧ s.recordError e op = s) := by
  unfold State.recordError
  split
  · exact .inl ⟨‹_›, rfl⟩
  · exact .inr ⟨‹_›, rfl⟩

theorem completeStop_cases (s : State) :
    (s.stopReq = true ∧ s.allStagesOut = true ∧ s.completeStop = { s with running := false }) ∨
      (¬(s.stopReq = true ∧ s.allStagesOut = true) ∧ s.completeStop = s) := by
  unfold State.completeStop
  split
  · next h => exact .inl ⟨(Bool.and_eq_true_iff.mp h).1, (Bool.and_eq_true_iff.mp h).2, rfl⟩
  · next h => exact .inr ⟨fun k => h (Bool.and_eq_true_iff.mpr k), rfl⟩

/-! ### Queues -/

/-- Q.TRYPUSH appends when there is room and otherwise drops; it changes one queue or one counter. -/
theorem tryPush_cases (s : State) (item : QueueItem) :
    (∃ b, item = .dq b ∧ s.dq.length < s.cfg.dqCap.toNat ∧
        s.tryPush item = ({ s with dq := s.dq ++ [b] }, .ok)) ∨
    (∃ b, item = .dq b ∧ s.cfg.dqCap.toNat ≤ s.dq.length ∧ s.tryPush item = (s.countDropDq, .full)) ∨
    (∃ b, item = .oq b ∧ s.oq.length < s.params.oqCap ∧
        s.tryPush item = ({ s with oq := s.oq ++ [b] }, .ok)) ∨
    (∃ b, item = .oq b ∧ s.params.oqCap ≤ s.oq.length ∧ s.tryPush item = (s.countDropOq, .full)) ∨
    (∃ c, item = .iq c ∧ s.iq.length < s.params.iqCap ∧
        s.tryPush item = ({ s with iq := s.iq ++ [c] }, .ok)) ∨
    (∃ c, item = .iq c ∧ s.params.iqCap ≤ s.iq.length ∧ s.tryPush item = (s, .full)) := by
  cases item with
  | dq b =>
    by_cases h : s.dq.length < s.cfg.dqCap.toNat
    · exact .inl ⟨b, rfl, h, by simp [State.tryPush, h]⟩
    · exact .inr (.inl ⟨b, rfl, by omega, by simp [State.tryPush, h]⟩)
  | oq b =>
    by_cases h : s.oq.length < s.params.oqCap
    · exact .inr (.inr (.inl ⟨b, rfl, h, by simp [State.tryPush, h]⟩))
    · exact .inr (.inr (.inr (.inl ⟨b, rfl, by omega, by simp [State.tryPush, h]⟩)))
  | iq c =>
    by_cases h : s.iq.length < s.params.iqCap
    · exact .inr (.inr (.inr (.inr (.inl ⟨c, rfl, h, by simp [State.tryPush, h]⟩))))
    · exact .inr (.inr (.inr (.inr (.inr ⟨c, rfl, by omega, by simp [State.tryPush, h]⟩))))

/-- Q.POP takes the oldest item of one queue, and has no step on an empty one. -/
theorem pop_cases {s t : State} {q : QueueId} {r : Result} (h : s.pop q = some (t, r)) :
    (∃ b rest, q = .dq ∧ s.dq = b :: rest ∧ t = { s with dq := rest } ∧ r = .bytes b) ∨
    (∃ b rest, q = .oq ∧ s.oq = b :: rest ∧ t = { s with oq := rest } ∧ r = .bytes b) ∨
    (∃ c rest, q = .iq ∧ s.iq = c :: rest ∧ t = { s with iq := rest } ∧ r = .pairs c) := by
  cases q <;> simp only [State.pop] at h <;> split at h <;> simp_all

/-- SRC's push appends, or loses the chunk under the policy `drop`, or has no step. -/
theorem sourcePush_cases {s t : State} {c : Chunk} {r : Result} (h : s.sourcePush c = some (t, r)) :
    (s.iq.length < s.params.iqCap ∧ t = { s with iq := s.iq ++ [c] } ∧ r = .ok) ∨
    (s.params.iqCap ≤ s.iq.length ∧ s.params.inPushPolicy = .drop ∧ t = s ∧ r = .full) := by
  unfold State.sourcePush at h
  split at h
  · simp only [Option.some.injEq, Prod.mk.injEq] at h
    exact .inl ⟨‹_›, h.1.symm, h.2.symm⟩
  · split at h
    · simp only [Option.some.injEq, Prod.mk.injEq] at h
      exact .inr ⟨by omega, ‹_›, h.1.symm, h.2.symm⟩
    · cases h

/-! ### Accumulator -/

/-- ACC.EMIT takes exactly the oldest `B` pairs, and only when there are that many. -/
theorem accTake_cases {s t : State} {blk : Chunk} (h : s.accTake = some (t, blk)) :
    s.cfg.blockSize ≤ s.acc.length ∧ t = { s with acc := s.acc.drop s.cfg.blockSize } ∧
      blk = s.acc.take s.cfg.blockSize := by
  unfold State.accTake at h
  split at h
  · simp only [Option.some.injEq, Prod.mk.injEq] at h
    exact ⟨‹_›, h.1.symm, h.2.symm⟩
  · cases h

theorem accTake_block_length {s t : State} {blk : Chunk} (h : s.accTake = some (t, blk)) :
    blk.length = s.cfg.blockSize := by
  obtain ⟨hl, -, rfl⟩ := accTake_cases h
  simp [hl]

theorem accTake_splits {s t : State} {blk : Chunk} (h : s.accTake = some (t, blk)) :
    blk ++ t.acc = s.acc := by
  obtain ⟨-, rfl, rfl⟩ := accTake_cases h
  simp

/-- ACC.PUSH appends with no full block pending, waits otherwise, and stays within `ACC_CAP` (R21, R151). -/
theorem execAccPush_cases {c : Chunk} {s t : State} (h : execAccPush c s = .next t) :
    c.length ≤ s.params.maxChunk ∧
      ((s.acc.length < s.cfg.blockSize ∧ t = { s with acc := s.acc ++ c, out := .done } ∧
          t.acc.length ≤ s.accCap) ∨
        (s.cfg.blockSize ≤ s.acc.length ∧ t = { s with out := .held })) := by
  unfold execAccPush at h
  split at h
  · next hf =>
    have hc : c.length ≤ s.params.maxChunk := by simpa [State.chunkFits] using hf
    refine ⟨hc, ?_⟩
    split at h
    · next hr =>
      have hr' : s.acc.length < s.cfg.blockSize := by simpa [State.accRoom] using hr
      simp only [finish_eq_next, State.accAppend] at h
      refine .inl ⟨hr', h, ?_⟩
      simp only [h, State.accCap, List.length_append]
      omega
    · next hr => exact .inr ⟨by simpa [State.accRoom] using hr, by simpa using h⟩
  · cases h

/-! ### Limiter -/

@[simp] theorem mark_limiterLast (s : State) (l : Limiter) : (s.mark l).limiterLast l = some s.now := by
  cases l <;> rfl

theorem mark_limiterLast_other (s : State) {l k : Limiter} (h : k ≠ l) :
    (s.mark l).limiterLast k = s.limiterLast k := by
  cases l <;> cases k <;> first | rfl | exact absurd rfl h

@[simp] theorem mark_limiterNum (s : State) (l k : Limiter) : (s.mark l).limiterNum k = s.limiterNum k := by
  cases l <;> cases k <;> rfl

@[simp] theorem mark_limiterDen (s : State) (l k : Limiter) : (s.mark l).limiterDen k = s.limiterDen k := by
  cases l <;> cases k <;> rfl

/-- A limiter is due when it has no mark or enough ticks have passed since. -/
theorem due_iff (s : State) (l : Limiter) :
    s.due l = true ↔ ∀ t, s.limiterLast l = some t →
      ((s.now : Int) - t) * s.limiterDen l ≥ (s.limiterNum l : Int) * s.params.tickHz := by
  unfold State.due
  cases s.limiterLast l <;> simp

/-- RL.CALL performs the operation and marks, only when due. -/
theorem limiterCall_cases {s t : State} {l : Limiter} {op : WrappedOp l} {r : Result}
    (h : s.limiterCall l op = some (t, r)) :
    s.due l = true ∧ ∃ u, s.runWrapped op = some (u, r) ∧ t = u.mark l := by
  unfold State.limiterCall at h
  split at h
  · next hd =>
    refine ⟨hd, ?_⟩
    cases hr : s.runWrapped op with
    | none => simp [hr] at h
    | some a =>
      simp only [hr, Option.map_some, Option.some.injEq, Prod.mk.injEq] at h
      exact ⟨a.1, by rw [← h.2], h.1.symm⟩
  · cases h

/-! ### BitField -/

/-- BF.ENC always completes: with the record's values, or with free ones for those it lacks (log 23). -/
theorem execBfEnc_cases (d : List Descriptor) (v : Record) (s : State) :
    (recordCovers d v = true ∧ execBfEnc d v s = finish s (resultOf .word (bfEnc d v))) ∨
      (recordCovers d v = false ∧
        execBfEnc d v s = finish s.draw (resultOf .word (bfEnc d (completeRecord d v s.drawn)))) := by
  unfold execBfEnc
  cases h : recordCovers d v
  · exact .inr ⟨rfl, rfl⟩
  · exact .inl ⟨rfl, rfl⟩

/-! ### Meter and framer -/

/-- MTR.OBS writes the meter and the counter of draws, nothing else. -/
theorem observe_eq (s : State) (n : Nat) : ∃ m, s.observe n = { s with mtr := m, drawn := s.drawn + 1 } :=
  ⟨_, rfl⟩

/-- FRAME.DATA writes `SEQ` and `BLK_IDX`, nothing else. -/
theorem frameData_eq (s : State) (blk : Chunk) :
    (s.frameData blk).1 = { s with seq := s.seq + 1, blkIdx := s.blkIdx + 1 } := rfl

/-- FRAME.CTX writes `CTX_SEQ` and the counter of draws, nothing else. -/
theorem frameCtx_eq (s : State) (tod : BitVec 96) : ∃ c, (s.frameCtx tod).1 =
    { s with ctxSeq := c, drawn := s.drawn + 1 } := ⟨_, rfl⟩

/-- P.EMIT's second half: the packet is pushed to `DQ`, or its error is recorded. -/
theorem frameAndPush_cases (s : State) (blk : Chunk) :
    (∃ e, (s.frameData blk).2 = .error e ∧
        s.frameAndPush blk = ((s.frameData blk).1.encodeFailed e opFrameData, .error e)) ∨
      (∃ b, (s.frameData blk).2 = .ok b ∧ s.frameAndPush blk = (s.frameData blk).1.tryPush (.dq b)) := by
  unfold State.frameAndPush
  split
  · exact .inl ⟨_, ‹_›, rfl⟩
  · exact .inr ⟨_, ‹_›, rfl⟩

/-- C.EMIT's wrapped operation: the packet is pushed to `OQ`, or its error is recorded. -/
theorem buildAndPush_cases (s : State) (tod : BitVec 96) :
    (∃ e, (s.frameCtx tod).2 = .error e ∧
        s.buildAndPush tod = ((s.frameCtx tod).1.encodeFailed e opFrameCtx, .error e)) ∨
      (∃ b, (s.frameCtx tod).2 = .ok b ∧ s.buildAndPush tod = (s.frameCtx tod).1.tryPush (.oq b)) := by
  unfold State.buildAndPush
  split
  · exact .inl ⟨_, ‹_›, rfl⟩
  · exact .inr ⟨_, ‹_›, rfl⟩

/-- What an operation wrapped by stage O's limiter can do. -/
theorem runWrapped_out_cases {s t : State} {op : WrappedOp .out} {r : Result}
    (h : s.runWrapped op = some (t, r)) :
    (∃ pkt, op = .tryPush pkt ∧ (t, r) = s.tryPush (.oq pkt)) ∨
    (op = .pop ∧ s.pop .dq = some (t, r)) ∨
    (∃ n, op = .mtrObs n ∧ t = s.observe n ∧ r = .done) ∨
    (∃ pkt, op = .pushHold ∧ s.oHold = some pkt ∧ (t, r) = s.tryPush (.oq pkt)) := by
  cases op <;> simp only [State.runWrapped] at h
  case pushHold =>
    split at h
    · cases h
    · simp_all
  all_goals simp_all

/-- What an operation wrapped by stage C's limiter can do; it always has a step. -/
theorem runWrapped_ctx_cases {s t : State} {op : WrappedOp .ctx} {r : Result}
    (h : s.runWrapped op = some (t, r)) :
    (∃ pkt, op = .tryPush pkt ∧ (t, r) = s.tryPush (.oq pkt)) ∨
    (op = .ctxPayload ∧ t = s.draw ∧ r = .bytes s.contextPayload) ∨
    (∃ tod, op = .frameCtx tod ∧ t = (s.frameCtx tod).1 ∧ r = resultOf .bytes (s.frameCtx tod).2) ∨
    (∃ p, op = .pktEnc p ∧ t = s ∧ r = resultOf .bytes (pktEnc s.params.layout p)) ∨
    (∃ tod, op = .buildAndPush tod ∧ (t, r) = s.buildAndPush tod) := by
  cases op <;> simp only [State.runWrapped] at h
  case frameCtx | ctxPayload | pktEnc =>
    obtain ⟨rfl, rfl⟩ := Prod.mk.inj (Option.some.inj h); simp
  all_goals simp_all

/-- PKT.ENC answers bytes only when no error of R119 applies. -/
theorem pktEnc_ok_error {l : Layout} {p : Packet} {b : Bytes} (h : pktEnc l p = .ok b) :
    pktEncError p = none := by
  unfold pktEnc at h
  split at h
  · cases h
  · assumption

/-- PKT.DEC answers a Packet exactly when no error of R120 applies. -/
theorem pktDec_ok {l : Layout} {b : Bytes} {p : Packet} :
    pktDec l b = .ok p ↔ pktDecError l b = none ∧ p = pktFields l b := by
  cases h : pktDecError l b <;> simp [pktDec, h, eq_comm]

/-! ### The steps of the stages -/

/-- An agent's step is what its operation does, its guard true, and then the end of a completed stop. -/
theorem takes_cases {i : Instr} {s t : State} (h : Takes i s t) :
    ∃ u, exec i s = .next u ∧ u.out ≠ .held ∧ t = u.completeStop := by
  obtain ⟨-, -, h, ho⟩ := h
  obtain ⟨u, hu, rfl⟩ := afterStep_cases h
  refine ⟨u, hu, ?_, rfl⟩
  obtain ⟨-, -, hc⟩ | ⟨-, hc⟩ := completeStop_cases u <;> simpa [hc] using ho

/-- P.LOAD waits, or moves the oldest chunk of `IQ` to the end of `ACC`. -/
theorem execPLoad_cases {s t : State} (h : execPLoad s = .next t) :
    t = { s with out := .held } ∨ ∃ c rest, s.pState = .run ∧ s.stopReq = false ∧
      s.acc.length < s.cfg.blockSize ∧ s.iq = c :: rest ∧
      t = { s with iq := rest, acc := s.acc ++ c, out := .done } := by
  unfold execPLoad at h
  split at h
  · next hg =>
    simp only [State.canLoad, State.accRoom, Bool.and_eq_true, beq_iff_eq, Bool.not_eq_true',
      decide_eq_true_eq] at hg
    split at h
    · exact .inl (by simpa using h)
    · next c rest hq => exact .inr ⟨c, rest, hg.1.1, hg.1.2, hg.2, hq, by simpa [State.accAppend] using h⟩
  · exact .inl (by simpa using h)

/-- P.EMIT waits, or takes the oldest block and frames and pushes it. -/
theorem execPEmit_cases {s t : State} (h : execPEmit s = .next t) :
    t = { s with out := .held } ∨ ∃ u r, s.pState = .run ∧ s.stopReq = false ∧
      s.cfg.blockSize ≤ s.acc.length ∧
      State.frameAndPush { s with acc := s.acc.drop s.cfg.blockSize } (s.acc.take s.cfg.blockSize) = (u, r) ∧
      t = { u with out := r } := by
  unfold execPEmit at h
  split at h
  · next hg =>
    simp only [State.canEmit, Bool.and_eq_true, beq_iff_eq, Bool.not_eq_true'] at hg
    obtain ⟨-, rfl⟩ | ⟨u, r, ha, rfl⟩ := finishOrHold_cases h
    · exact .inl rfl
    · obtain ⟨⟨v, blk⟩, hv, he⟩ := Option.map_eq_some_iff.mp ha
      obtain ⟨hl, rfl, rfl⟩ := accTake_cases hv
      exact .inr ⟨u, r, hg.1, hg.2, hl, he, rfl⟩
  · exact .inl (by simpa using h)

/-- O.FETCH waits, or takes the oldest packet of `DQ` into `O_HOLD`. -/
theorem execOFetch_cases {s t : State} (h : execOFetch s = .next t) :
    t = { s with out := .held } ∨ ∃ pkt rest, s.oState = .wait ∧ s.stopReq = false ∧ s.dq = pkt :: rest ∧
      t = { s with dq := rest, oHold := some pkt, oState := .holding, out := .done } := by
  unfold execOFetch at h
  split at h
  · next hg =>
    simp only [State.canFetch, Bool.and_eq_true, beq_iff_eq, Bool.not_eq_true'] at hg
    split at h
    · exact .inl (by simpa using h)
    · next pkt rest hq => exact .inr ⟨pkt, rest, hg.1, hg.2, hq, by simpa using h⟩
  · exact .inl (by simpa using h)

/-- O.SEND waits, or pushes the held packet, marks, observes a packet that was queued, and lets go. -/
theorem execOSend_cases {s t : State} (h : execOSend s = .next t) :
    t = { s with out := .held } ∨ ∃ pkt u r, s.oState = .holding ∧ s.stopReq = false ∧ s.oHold = some pkt ∧
      s.due .out = true ∧ s.tryPush (.oq pkt) = (u, r) ∧
      t = { (u.mark .out).observeIfOk r pkt.length with oHold := none, oState := .wait, out := r } := by
  unfold execOSend at h
  split at h
  · next hg =>
    simp only [State.canSend, Bool.and_eq_true, beq_iff_eq, Bool.not_eq_true'] at hg
    split at h
    · exact .inl (by simpa using h)
    · next pkt hp =>
      obtain ⟨-, rfl⟩ | ⟨v, q, ha, rfl⟩ := finishOrHold_cases h
      · exact .inl rfl
      · obtain ⟨⟨w, r⟩, hw, he⟩ := Option.map_eq_some_iff.mp ha
        obtain ⟨hd, u, hu, rfl⟩ := limiterCall_cases hw
        simp only [State.runWrapped, hp, Option.some.injEq] at hu
        obtain ⟨rfl, rfl⟩ := Prod.mk.inj he
        exact .inr ⟨pkt, u, r, hg.1, hg.2, hp, hd, hu, rfl⟩
  · exact .inl (by simpa using h)

/-- C.EMIT waits, or builds and pushes a context packet and marks. -/
theorem execCEmit_cases {s t : State} {tod : BitVec 96} (h : execCEmit tod s = .next t) :
    t = { s with out := .held } ∨ ∃ u r, s.cState = .run ∧ s.stopReq = false ∧ 0 < s.cfg.ctxFreqInt ∧
      s.due .ctx = true ∧ s.buildAndPush tod = (u, r) ∧ t = { u.mark .ctx with out := r } := by
  unfold execCEmit at h
  split at h
  · next hg =>
    simp only [State.canEmitContext, Bool.and_eq_true, beq_iff_eq, Bool.not_eq_true', decide_eq_true_eq] at hg
    obtain ⟨-, rfl⟩ | ⟨v, r, ha, rfl⟩ := finishOrHold_cases h
    · exact .inl rfl
    · obtain ⟨hd, u, hu, rfl⟩ := limiterCall_cases ha
      exact .inr ⟨u, r, hg.1.1, hg.1.2, hg.2, hd, by simpa [State.runWrapped] using hu, rfl⟩
  · exact .inl (by simpa using h)

/-- C.EXIT waits, or ends stage C's work. -/
theorem execCExit_cases {s t : State} (h : execCExit s = .next t) :
    t = { s with out := .held } ∨ (s.cState = .run ∧ s.stopReq = false ∧ s.cfg.ctxFreqInt ≤ 0 ∧
      t = { s with cState := .done, out := .done }) := by
  unfold execCExit at h
  split at h
  · next hg =>
    simp only [State.canExit, Bool.and_eq_true, beq_iff_eq, Bool.not_eq_true', decide_eq_true_eq] at hg
    exact .inr ⟨hg.1.1, hg.1.2, hg.2, by simpa using h⟩
  · exact .inl (by simpa using h)

end Sys2Proof.Machine
end

