-- ==== Sys2Proof/Laws/PerInstr.lean ====
section
/-! SUPPORT. A family of statements made per instruction: an operation of R77 is written as a command that
leads with its OPID, a wire format's row as wire bytes with no OPID. -/

namespace Sys2Proof.Laws.OpidLeads

/-- The transfer of an operation is a command whose first byte is its OPID (R77; log 2); that of a wire
format's row is wire bytes (log 3). -/
def Statement (i : Instr) : Prop :=
  match opid i with
  | some op => (encode i).channel = .command ∧ (encode i).bytes.head? = some op
  | none => ∃ f, (encode i).channel = .wire f

theorem bfDec (d : List Descriptor) (w : Word) : Statement (.bfDec d w) := ⟨rfl, rfl⟩
theorem bfEnc (d : List Descriptor) (v : Record) : Statement (.bfEnc d v) := ⟨rfl, rfl⟩
theorem hdrEnc (h : Header) : Statement (.hdrEnc h) := ⟨rfl, rfl⟩
theorem hdrDec (w : Word) : Statement (.hdrDec w) := ⟨rfl, rfl⟩
theorem trlEnc (t : Trailer) : Statement (.trlEnc t) := ⟨rfl, rfl⟩
theorem trlDec (w : Word) : Statement (.trlDec w) := ⟨rfl, rfl⟩
theorem cidEnc (c : ClassId) : Statement (.cidEnc c) := ⟨rfl, rfl⟩
theorem cidDec (b : Bytes) : Statement (.cidDec b) := ⟨rfl, rfl⟩
theorem tsEnc (ts : Nat) (tsi tsf : BitVec 2) : Statement (.tsEnc ts tsi tsf) := ⟨rfl, rfl⟩
theorem tsDec (sec : Option Word) (frac : Option (BitVec 64)) : Statement (.tsDec sec frac) := ⟨rfl, rfl⟩
theorem pktSize (p : Packet) : Statement (.pktSize p) := ⟨rfl, rfl⟩
theorem pktEnc (p : Packet) : Statement (.pktEnc p) := ⟨rfl, rfl⟩
theorem pktDec (b : Bytes) : Statement (.pktDec b) := ⟨rfl, rfl⟩
theorem pack12 (xs : Chunk) : Statement (.pack12 xs) := ⟨rfl, rfl⟩
theorem unpack12 (b : Bytes) : Statement (.unpack12 b) := ⟨rfl, rfl⟩
theorem accPush (c : Chunk) : Statement (.accPush c) := ⟨rfl, rfl⟩
theorem accEmit : Statement (.accEmit) := ⟨rfl, rfl⟩
theorem rlDue (l : Limiter) : Statement (.rlDue l) := ⟨rfl, rfl⟩
theorem rlMark (l : Limiter) : Statement (.rlMark l) := ⟨rfl, rfl⟩
theorem rlCall (l : Limiter) (op : WrappedOp l) : Statement (.rlCall l op) := ⟨rfl, rfl⟩
theorem mtrObs (n : Nat) : Statement (.mtrObs n) := ⟨rfl, rfl⟩
theorem tsBlock (k : BitVec 64) : Statement (.tsBlock k) := ⟨rfl, rfl⟩
theorem frameData (blk : Chunk) : Statement (.frameData blk) := ⟨rfl, rfl⟩
theorem ctxPayload : Statement (.ctxPayload) := ⟨rfl, rfl⟩
theorem frameCtx (tod : BitVec 96) : Statement (.frameCtx tod) := ⟨rfl, rfl⟩
theorem qTryPush (item : QueueItem) : Statement (.qTryPush item) := ⟨rfl, rfl⟩
theorem qPop (q : QueueId) : Statement (.qPop q) := ⟨rfl, rfl⟩
theorem start (tod : BitVec 96) : Statement (.start tod) := ⟨rfl, rfl⟩
theorem stop : Statement (.stop) := ⟨rfl, rfl⟩
theorem pLoad : Statement (.pLoad) := ⟨rfl, rfl⟩
theorem pEmit : Statement (.pEmit) := ⟨rfl, rfl⟩
theorem oFetch : Statement (.oFetch) := ⟨rfl, rfl⟩
theorem oSend : Statement (.oSend) := ⟨rfl, rfl⟩
theorem cEmit (tod : BitVec 96) : Statement (.cEmit tod) := ⟨rfl, rfl⟩
theorem cExit : Statement (.cExit) := ⟨rfl, rfl⟩
theorem tick (n : Nat) : Statement (.tick n) := ⟨rfl, rfl⟩
theorem srcPush (c : Chunk) : Statement (.srcPush c) := ⟨rfl, rfl⟩
theorem snkPop : Statement (.snkPop) := ⟨rfl, rfl⟩
theorem stageFault (g : Stage) : Statement (.stageFault g) := ⟨rfl, rfl⟩
theorem hostDec (b : Bytes) : Statement (.hostDec b) := ⟨rfl, rfl⟩
theorem reset : Statement (.reset) := ⟨rfl, rfl⟩
theorem pStop : Statement (.pStop) := ⟨rfl, rfl⟩
theorem oStop : Statement (.oStop) := ⟨rfl, rfl⟩
theorem cStop : Statement (.cStop) := ⟨rfl, rfl⟩
theorem cfgWrite (a : CfgAssign) : Statement (.cfgWrite a) := ⟨rfl, rfl⟩
theorem regRead (r : RegId) : Statement (.regRead r) := ⟨rfl, rfl⟩
theorem wordHeaderVita (h : Header) : Statement (.wordHeaderVita h) := ⟨_, rfl⟩
theorem wordHeaderListed (h : Header) : Statement (.wordHeaderListed h) := ⟨_, rfl⟩
theorem wordTrailerVita (enables indicators : BitVec 12) (contextEn : Bool) (contextCount : BitVec 7) : Statement (.wordTrailerVita enables indicators contextEn contextCount) := ⟨_, rfl⟩
theorem wordTrailerListed (enables indicators : BitVec 12) (contextEn : Bool) (contextCount : BitVec 7) : Statement (.wordTrailerListed enables indicators contextEn contextCount) := ⟨_, rfl⟩
theorem wordStreamId (sid : Word) : Statement (.wordStreamId sid) := ⟨_, rfl⟩
theorem wordClassId1 (oui : BitVec 24) : Statement (.wordClassId1 oui) := ⟨_, rfl⟩
theorem wordClassId2 (infoClass packetClass : BitVec 16) : Statement (.wordClassId2 infoClass packetClass) := ⟨_, rfl⟩
theorem wordTsInt (sec : Word) : Statement (.wordTsInt sec) := ⟨_, rfl⟩
theorem fieldTsFrac (frac : BitVec 64) : Statement (.fieldTsFrac frac) := ⟨_, rfl⟩
theorem fieldTriplet (first second : BitVec 12) : Statement (.fieldTriplet first second) := ⟨_, rfl⟩
theorem fieldCtxPayload (b : Bytes) : Statement (.fieldCtxPayload b) := ⟨_, rfl⟩
theorem pktPtData (p : WirePacket) : Statement (.pktPtData p) := ⟨_, rfl⟩
theorem pktPtDataWithId (p : WirePacket) : Statement (.pktPtDataWithId p) := ⟨_, rfl⟩
theorem pktPtExtData (p : WirePacket) : Statement (.pktPtExtData p) := ⟨_, rfl⟩
theorem pktPtExtDataWithId (p : WirePacket) : Statement (.pktPtExtDataWithId p) := ⟨_, rfl⟩
theorem pktPtContext (p : WirePacket) : Statement (.pktPtContext p) := ⟨_, rfl⟩
theorem pktPtExtContext (p : WirePacket) : Statement (.pktPtExtContext p) := ⟨_, rfl⟩
theorem pktUnnamed6 (p : WirePacket) : Statement (.pktUnnamed6 p) := ⟨_, rfl⟩
theorem pktUnnamed7 (p : WirePacket) : Statement (.pktUnnamed7 p) := ⟨_, rfl⟩
theorem pktUnnamed8 (p : WirePacket) : Statement (.pktUnnamed8 p) := ⟨_, rfl⟩
theorem pktUnnamed9 (p : WirePacket) : Statement (.pktUnnamed9 p) := ⟨_, rfl⟩
theorem pktUnnamed10 (p : WirePacket) : Statement (.pktUnnamed10 p) := ⟨_, rfl⟩
theorem pktUnnamed11 (p : WirePacket) : Statement (.pktUnnamed11 p) := ⟨_, rfl⟩
theorem pktUnnamed12 (p : WirePacket) : Statement (.pktUnnamed12 p) := ⟨_, rfl⟩
theorem pktUnnamed13 (p : WirePacket) : Statement (.pktUnnamed13 p) := ⟨_, rfl⟩
theorem pktUnnamed14 (p : WirePacket) : Statement (.pktUnnamed14 p) := ⟨_, rfl⟩
theorem pktUnnamed15 (p : WirePacket) : Statement (.pktUnnamed15 p) := ⟨_, rfl⟩

end Sys2Proof.Laws.OpidLeads
end

