-- ==== Sys2Proof/Tests/Slice0.lean ====
section
/-! SUPPORT. The model's own tests: what WellFormed refuses, one word per operation written out from the
spec's encoding, one or two steps per operation with results from spec/95_test_vectors.md or the rule
named, and for every statement with hypotheses a state and operands that meet them. -/

set_option Elab.async false

namespace Sys2Proof.Tests

open Sys2Proof Sys2Proof.Machine

/-! ## Helpers -/

/-- Four bytes of a hexadecimal word, most significant first. -/
def wordBytes (w : Nat) : Bytes :=
  [BitVec.ofNat 8 (w / 2 ^ 24), BitVec.ofNat 8 (w / 2 ^ 16), BitVec.ofNat 8 (w / 2 ^ 8), BitVec.ofNat 8 w]

/-- The bytes of a list of hexadecimal words. -/
def words (ws : List Nat) : Bytes := ws.flatMap wordBytes

/-- A board: one tick a microsecond, small queues, chunks of at most 8 pairs, two observations a window. -/
def board : Params := ⟨.vita, 1000000, 2, 2, 8, .drop, 2⟩

/-- V75's and V80's configuration, with `CFG_DQ_CAP = 2` and `CFG_CTX_FREQ = 10`. -/
def boardCfg : Cfg :=
  { Cfg.reset with
    frequency := 2440000000, bandwidth := 20000000, sampleRate := 40000000, sampleCount := 8
    ctxFreq := 10, dqCap := 2, bitRes := 12, dataFmt := 0x291, dataSid := 0x2A, dataOui := 0xABCDEF
    dataClass := 0x12345678, ctxFmt := 4, ctxOff := 0x001C1008
    ctxTemplate := #v[0x00010203, 0x04050607, 0x08090A0B, 0x0C0D0E0F, 0x10111213, 0x14151617,
      0x18191A1B, 0x1C1D1E1F, 0x20212223, 0x24252627, 0x28292A2B, 0x2C2D2E2F] }

/-- After reset, on the board. -/
def idle : State := { State.reset with params := board }

/-- Configured, not started. -/
def ready : State := { idle with cfg := boardCfg }

/-- A wall clock: V70's `T0`. -/
def clock : BitVec 96 := 1700000000250000000000

/-- Started. -/
def live : State :=
  { ready with running := true, pState := .run, oState := .wait, cState := .run, t0 := clock }

/-- Started, and asked to stop. -/
def stopping : State := { live with stopReq := true }

/-- V75's block. -/
def block : Chunk :=
  [⟨1, 2⟩, ⟨0xFFFF, 0xFFFE⟩, ⟨2047, 0xF800⟩, ⟨0x1234, 0x0FFF⟩, ⟨0, 0⟩, ⟨5, 6⟩, ⟨0xFFF9, 8⟩, ⟨100, 0xFF9C⟩]

/-- The state an operation leaves, if it leaves one. -/
def next? (i : Instr) (s : State) : Option State :=
  match exec i s with
  | .next t => some t
  | .fault _ => none
  | .refused _ => none

/-- What an operation returns. -/
def ret (i : Instr) (s : State) : Option Result := (next? i s).map State.out

/-- One view of the state an operation leaves. -/
def see {α : Type} (i : Instr) (s : State) (f : State → α) : Option α := (next? i s).map f

/-- An operation is refused. -/
def refuses (i : Instr) (s : State) : Bool :=
  match exec i s with
  | .next _ => false
  | .fault _ => false
  | .refused _ => true

/-! ## WellFormed refuses an ill-formed term at each of its checks -/

theorem test_wf_cidDec : WellFormed (.cidDec [1, 2, 3, 4, 5, 6, 7]) = false := by decide
theorem test_wf_tick_zero : WellFormed (.tick 0) = false := by decide
theorem test_wf_fieldCtxPayload : WellFormed (.fieldCtxPayload (List.replicate 47 0)) = false := by decide

/-! ## Decoding: the operations -/

theorem test_decode_bfDec :
    decode ⟨.command, [0x10, 0x01, 0x01, 0x01, 0x01, 0x04, 0x00, 0x01, 0x00, 0x01, 0x04, 0x00, 0x01, 0x01, 0x02, 0x01, 0x18, 0x00, 0x00, 0x9F, 0x00, 0x00, 0x01]⟩ =
      .ok (.bfDec [⟨some 1, 4⟩, ⟨none, 4⟩, ⟨some 2, 24⟩] 0x9F000001) := by decide

theorem test_decode_bfEnc :
    decode ⟨.command, [0x11, 0x01, 0x01, 0x01, 0x01, 0x20, 0x00, 0x00, 0x01, 0x01, 0x01, 0xFF, 0x00, 0x00]⟩ =
      .ok (.bfEnc [⟨some 1, 32⟩] [(1, 255)]) := by decide

theorem test_decode_hdrEnc :
    decode ⟨.command, [0x12, 0x01, 0x01, 0x00, 0x00, 0x01, 0x02, 0x05, 0x00, 0x0E]⟩ =
      .ok (.hdrEnc ⟨1, true, false, false, 1, 2, 5, 14⟩) := by decide

theorem test_decode_hdrDec :
    decode ⟨.command, [0x13, 0x18, 0x65, 0x00, 0x0E]⟩ =
      .ok (.hdrDec 0x1865000E) := by decide

theorem test_decode_trlEnc :
    decode ⟨.command, [0x14, 0x0C, 0x00, 0x04, 0x00, 0x01, 0x03]⟩ =
      .ok (.trlEnc ⟨0xC00, 0x400, some 3⟩) := by decide

theorem test_decode_trlDec :
    decode ⟨.command, [0x15, 0xC0, 0x04, 0x00, 0x83]⟩ =
      .ok (.trlDec 0xC0040083) := by decide

theorem test_decode_cidEnc :
    decode ⟨.command, [0x20, 0xAB, 0xCD, 0xEF, 0x12, 0x34, 0x56, 0x78]⟩ =
      .ok (.cidEnc ⟨0xABCDEF, 0x1234, 0x5678⟩) := by decide

theorem test_decode_cidDec :
    decode ⟨.command, [0x21, 0xFF, 0xAB, 0xCD, 0xEF, 0x12, 0x34, 0x56, 0x78]⟩ =
      .ok (.cidDec [0xFF, 0xAB, 0xCD, 0xEF, 0x12, 0x34, 0x56, 0x78]) := by decide

theorem test_decode_tsEnc :
    decode ⟨.command, [0x22, 0x01, 0x01, 0x01, 0x02, 0x00, 0x01, 0x02]⟩ =
      .ok (.tsEnc 258 1 2) := by decide

theorem test_decode_tsDec :
    decode ⟨.command, [0x23, 0x01, 0x65, 0x53, 0xF1, 0x00, 0x00]⟩ =
      .ok (.tsDec (some 0x6553F100) none) := by decide

theorem test_decode_pktSize :
    decode ⟨.command, [0x24, 0x01, 0x01, 0x02, 0x00, 0x05, 0x01, 0x00, 0x00, 0x00, 0x2A, 0x00, 0x00, 0x00, 0x00, 0x00, 0x00]⟩ =
      .ok (.pktSize ⟨1, 1, 2, none, 5, some 42, none, none, none, none, [], none⟩) := by decide

theorem test_decode_pktEnc :
    decode ⟨.command, [0x25, 0x04, 0x00, 0x00, 0x01, 0x01, 0x09, 0x00, 0x00, 0x01, 0xAB, 0xCD, 0xEF, 0x01, 0x12, 0x34, 0x01, 0x56, 0x78, 0x01, 0xAA, 0x00, 0x01, 0x00, 0x01, 0x00, 0x02, 0x00]⟩ =
      .ok (.pktEnc ⟨4, 0, 0, some true, 9, none, none, some 0xABCDEF, some 0x1234, some 0x5678, [0xAA], some ⟨1, 2, none⟩⟩) := by decide

theorem test_decode_pktDec :
    decode ⟨.command, [0x26, 0x01, 0x00, 0x01, 0x00, 0x01, 0x00, 0x01, 0x01, 0x00]⟩ =
      .ok (.pktDec [0, 0, 0, 1]) := by decide

theorem test_decode_pack12 :
    decode ⟨.command, [0x30, 0x01, 0x00, 0x01, 0xFF, 0xFF, 0x00]⟩ =
      .ok (.pack12 [⟨1, 0xFFFF⟩]) := by decide

theorem test_decode_unpack12 :
    decode ⟨.command, [0x31, 0x01, 0xAB, 0x01, 0xCD, 0x00]⟩ =
      .ok (.unpack12 [0xAB, 0xCD]) := by decide

theorem test_decode_accPush :
    decode ⟨.command, [0x40, 0x01, 0x00, 0x01, 0x00, 0x02, 0x00]⟩ =
      .ok (.accPush [⟨1, 2⟩]) := by decide

theorem test_decode_accEmit :
    decode ⟨.command, [0x41]⟩ =
      .ok (.accEmit) := by decide

theorem test_decode_rlDue :
    decode ⟨.command, [0x50, 0x01]⟩ =
      .ok (.rlDue .ctx) := by decide

theorem test_decode_rlMark :
    decode ⟨.command, [0x51, 0x00]⟩ =
      .ok (.rlMark .out) := by decide

theorem test_decode_rlCall :
    decode ⟨.command, [0x52, 0x00, 0x01]⟩ =
      .ok (.rlCall .out .pop) := by decide

theorem test_decode_mtrObs :
    decode ⟨.command, [0x53, 0x01, 0x2C, 0x00]⟩ =
      .ok (.mtrObs 44) := by decide

theorem test_decode_tsBlock :
    decode ⟨.command, [0x60, 0x00, 0x00, 0x00, 0x00, 0x00, 0x00, 0x00, 0x01]⟩ =
      .ok (.tsBlock 1) := by decide

theorem test_decode_frameData :
    decode ⟨.command, [0x61, 0x00]⟩ =
      .ok (.frameData []) := by decide

theorem test_decode_ctxPayload :
    decode ⟨.command, [0x62]⟩ =
      .ok (.ctxPayload) := by decide

theorem test_decode_frameCtx :
    decode ⟨.command, [0x63, 0x00, 0x00, 0x00, 0x00, 0x00, 0x00, 0x00, 0x00, 0x00, 0x00, 0x00, 0x05]⟩ =
      .ok (.frameCtx 5) := by decide

theorem test_decode_qTryPush :
    decode ⟨.command, [0x70, 0x00, 0x01, 0xAA, 0x00]⟩ =
      .ok (.qTryPush (.dq [0xAA])) := by decide

theorem test_decode_qPop :
    decode ⟨.command, [0x71, 0x01]⟩ =
      .ok (.qPop .oq) := by decide

theorem test_decode_start :
    decode ⟨.command, [0x80, 0x00, 0x00, 0x00, 0x00, 0x00, 0x00, 0x00, 0x00, 0x00, 0x00, 0x00, 0x07]⟩ =
      .ok (.start 7) := by decide

theorem test_decode_stop :
    decode ⟨.command, [0x81]⟩ =
      .ok (.stop) := by decide

theorem test_decode_pLoad :
    decode ⟨.command, [0x82]⟩ =
      .ok (.pLoad) := by decide

theorem test_decode_pEmit :
    decode ⟨.command, [0x83]⟩ =
      .ok (.pEmit) := by decide

theorem test_decode_oFetch :
    decode ⟨.command, [0x84]⟩ =
      .ok (.oFetch) := by decide

theorem test_decode_oSend :
    decode ⟨.command, [0x85]⟩ =
      .ok (.oSend) := by decide

theorem test_decode_cEmit :
    decode ⟨.command, [0x86, 0x00, 0x00, 0x00, 0x00, 0x00, 0x00, 0x00, 0x00, 0x00, 0x00, 0x00, 0x09]⟩ =
      .ok (.cEmit 9) := by decide

theorem test_decode_cExit :
    decode ⟨.command, [0x87]⟩ =
      .ok (.cExit) := by decide

theorem test_decode_tick :
    decode ⟨.command, [0x88, 0x01, 0x04, 0x00]⟩ =
      .ok (.tick 5) := by decide

theorem test_decode_srcPush :
    decode ⟨.command, [0x89, 0x01, 0x00, 0x01, 0x00, 0x02, 0x00]⟩ =
      .ok (.srcPush [⟨1, 2⟩]) := by decide

theorem test_decode_snkPop :
    decode ⟨.command, [0x8A]⟩ =
      .ok (.snkPop) := by decide

theorem test_decode_stageFault :
    decode ⟨.command, [0x8B, 0x01]⟩ =
      .ok (.stageFault .o) := by decide

theorem test_decode_hostDec :
    decode ⟨.command, [0x8C, 0x01, 0x00, 0x01, 0x00, 0x01, 0x00, 0x00]⟩ =
      .ok (.hostDec [0, 0, 0]) := by decide

theorem test_decode_reset :
    decode ⟨.command, [0x8D]⟩ =
      .ok (.reset) := by decide

theorem test_decode_pStop :
    decode ⟨.command, [0x8E]⟩ =
      .ok (.pStop) := by decide

theorem test_decode_oStop :
    decode ⟨.command, [0x8F]⟩ =
      .ok (.oStop) := by decide

theorem test_decode_cStop :
    decode ⟨.command, [0x90]⟩ =
      .ok (.cStop) := by decide

theorem test_decode_cfgWrite :
    decode ⟨.command, [0x91, 0x06, 0x00, 0x00, 0x00, 0x0C]⟩ =
      .ok (.cfgWrite (.bitRes 12)) := by decide

theorem test_decode_regRead :
    decode ⟨.command, [0x92, 0x80]⟩ =
      .ok (.regRead .status) := by decide

/-! The wire words, written out from the rules named. -/

/-- R60, R93 -/
theorem test_decode_wordHeaderVita : decode ⟨.wire .headerVita, [0x18, 0x65, 0x00, 0x0E]⟩ = .ok (.wordHeaderVita ⟨1, true, false, false, 1, 2, 5, 14⟩) := by decide

/-- R61, R93 -/
theorem test_decode_wordHeaderListed : decode ⟨.wire .headerListed, [0x00, 0x0E, 0x59, 0x11]⟩ = .ok (.wordHeaderListed ⟨1, true, false, false, 1, 2, 5, 14⟩) := by decide

/-- R62, R95 -/
theorem test_decode_wordTrailerVita : decode ⟨.wire .trailerVita, [0xC0, 0x04, 0x00, 0x83]⟩ = .ok (.wordTrailerVita 0xC00 0x400 true 3) := by decide

/-- R62, V10 -/
theorem test_decode_wordTrailerListed : decode ⟨.wire .trailerListed, [0x07, 0x40, 0x0C, 0x00]⟩ = .ok (.wordTrailerListed 0xC00 0x400 true 3) := by decide

/-- R64 -/
theorem test_decode_wordStreamId : decode ⟨.wire .streamId, [0x00, 0x00, 0x00, 0x2A]⟩ = .ok (.wordStreamId 42) := by decide

/-- R65 -/
theorem test_decode_wordClassId1 : decode ⟨.wire .classId1, [0xFF, 0xAB, 0xCD, 0xEF]⟩ = .ok (.wordClassId1 0xABCDEF) := by decide

/-- R65 -/
theorem test_decode_wordClassId2 : decode ⟨.wire .classId2, [0x12, 0x34, 0x56, 0x78]⟩ = .ok (.wordClassId2 0x1234 0x5678) := by decide

/-- R70 -/
theorem test_decode_wordTsInt : decode ⟨.wire .tsInt, [0x65, 0x53, 0xF1, 0x00]⟩ = .ok (.wordTsInt 0x6553F100) := by decide

/-- R71 -/
theorem test_decode_fieldTsFrac : decode ⟨.wire .tsFrac, [0x00, 0x00, 0x00, 0x3A, 0x35, 0x29, 0x44, 0x00]⟩ = .ok (.fieldTsFrac 0x3A35294400) := by decide

/-- R69 -/
theorem test_decode_fieldTriplet : decode ⟨.wire .triplet, [0x23, 0x4F, 0xFF]⟩ = .ok (.fieldTriplet 0x234 0xFFF) := by decide

/-- R72 -/
theorem test_decode_fieldCtxPayload :
    decode ⟨.wire .ctxPayload, List.replicate 48 7⟩ = .ok (.fieldCtxPayload (List.replicate 48 7)) := by decide

/-! One Header word per packet type: the type in bits 31:28, `tsf` 2, count 3, size 1 (R60, R63). -/

theorem test_decode_pktPtData : decode ⟨.wire (.packet .vita), [0x00, 0x23, 0x00, 0x01]⟩ =
    .ok (.pktPtData ⟨.vita, false, false, false, 0, 2, 3, 1, []⟩) := by decide

theorem test_decode_pktPtDataWithId : decode ⟨.wire (.packet .vita), [0x10, 0x23, 0x00, 0x01]⟩ =
    .ok (.pktPtDataWithId ⟨.vita, false, false, false, 0, 2, 3, 1, []⟩) := by decide

theorem test_decode_pktPtExtData : decode ⟨.wire (.packet .vita), [0x20, 0x23, 0x00, 0x01]⟩ =
    .ok (.pktPtExtData ⟨.vita, false, false, false, 0, 2, 3, 1, []⟩) := by decide

theorem test_decode_pktPtExtDataWithId : decode ⟨.wire (.packet .vita), [0x30, 0x23, 0x00, 0x01]⟩ =
    .ok (.pktPtExtDataWithId ⟨.vita, false, false, false, 0, 2, 3, 1, []⟩) := by decide

theorem test_decode_pktPtContext : decode ⟨.wire (.packet .vita), [0x40, 0x23, 0x00, 0x01]⟩ =
    .ok (.pktPtContext ⟨.vita, false, false, false, 0, 2, 3, 1, []⟩) := by decide

theorem test_decode_pktPtExtContext : decode ⟨.wire (.packet .vita), [0x50, 0x23, 0x00, 0x01]⟩ =
    .ok (.pktPtExtContext ⟨.vita, false, false, false, 0, 2, 3, 1, []⟩) := by decide

theorem test_decode_pktUnnamed6 : decode ⟨.wire (.packet .vita), [0x60, 0x23, 0x00, 0x01]⟩ =
    .ok (.pktUnnamed6 ⟨.vita, false, false, false, 0, 2, 3, 1, []⟩) := by decide

theorem test_decode_pktUnnamed7 : decode ⟨.wire (.packet .vita), [0x70, 0x23, 0x00, 0x01]⟩ =
    .ok (.pktUnnamed7 ⟨.vita, false, false, false, 0, 2, 3, 1, []⟩) := by decide

theorem test_decode_pktUnnamed8 : decode ⟨.wire (.packet .vita), [0x80, 0x23, 0x00, 0x01]⟩ =
    .ok (.pktUnnamed8 ⟨.vita, false, false, false, 0, 2, 3, 1, []⟩) := by decide

theorem test_decode_pktUnnamed9 : decode ⟨.wire (.packet .vita), [0x90, 0x23, 0x00, 0x01]⟩ =
    .ok (.pktUnnamed9 ⟨.vita, false, false, false, 0, 2, 3, 1, []⟩) := by decide

theorem test_decode_pktUnnamed10 : decode ⟨.wire (.packet .vita), [0xA0, 0x23, 0x00, 0x01]⟩ =
    .ok (.pktUnnamed10 ⟨.vita, false, false, false, 0, 2, 3, 1, []⟩) := by decide

theorem test_decode_pktUnnamed11 : decode ⟨.wire (.packet .vita), [0xB0, 0x23, 0x00, 0x01]⟩ =
    .ok (.pktUnnamed11 ⟨.vita, false, false, false, 0, 2, 3, 1, []⟩) := by decide

theorem test_decode_pktUnnamed12 : decode ⟨.wire (.packet .vita), [0xC0, 0x23, 0x00, 0x01]⟩ =
    .ok (.pktUnnamed12 ⟨.vita, false, false, false, 0, 2, 3, 1, []⟩) := by decide

theorem test_decode_pktUnnamed13 : decode ⟨.wire (.packet .vita), [0xD0, 0x23, 0x00, 0x01]⟩ =
    .ok (.pktUnnamed13 ⟨.vita, false, false, false, 0, 2, 3, 1, []⟩) := by decide

theorem test_decode_pktUnnamed14 : decode ⟨.wire (.packet .vita), [0xE0, 0x23, 0x00, 0x01]⟩ =
    .ok (.pktUnnamed14 ⟨.vita, false, false, false, 0, 2, 3, 1, []⟩) := by decide

theorem test_decode_pktUnnamed15 : decode ⟨.wire (.packet .vita), [0xF0, 0x23, 0x00, 0x01]⟩ =
    .ok (.pktUnnamed15 ⟨.vita, false, false, false, 0, 2, 3, 1, []⟩) := by decide

/-! Bytes that are no operation. -/

theorem test_decode_unknown_opid : decode ⟨.command, [0xFF]⟩ = .error .unknownOpid := by decide
theorem test_decode_bad_selector : decode ⟨.command, [0x50, 0x02]⟩ = .error .badSelector := by decide
theorem test_decode_truncated : decode ⟨.command, [0x13, 0x00, 0x00, 0x00]⟩ = .error .truncated := by decide

/-- The table's bits for RESET and for a type 4 Header word reach the decoder and the step. -/
theorem test_decodeTableWord :
    decodeTableWord 8 0x8D = some .reset ∧
    decodeTableWord 32 0x40000001 = some (.pktPtContext ⟨.vita, false, false, false, 0, 0, 0, 1, []⟩) := by
  decide

/-- Operands have no bound of the encoding's own: a width of 256, a value of 65 bits, a time of 193. -/
theorem test_decode_unbounded :
    decode (encode (.bfDec [⟨some 1, 256⟩] 0)) = .ok (.bfDec [⟨some 1, 256⟩] 0) ∧
      decode (encode (.bfEnc [⟨some 1, 32⟩] [(1, 2 ^ 64)])) = .ok (.bfEnc [⟨some 1, 32⟩] [(1, 2 ^ 64)]) ∧
      decode (encode (.tsEnc (2 ^ 192) 1 2)) = .ok (.tsEnc (2 ^ 192) 1 2) := by decide +kernel

theorem test_withFetchWord : ∃ t, step (live.withFetchWord 8 0x8D) = .next t ∧ t.running = false := by
  exact ⟨_, rfl, by decide⟩

/-! ## One step: BitField, Header, Trailer -/

/-- V1: reserved bits are dropped. -/
theorem test_bfDec : ret (.bfDec [⟨some 1, 4⟩, ⟨none, 4⟩, ⟨some 2, 24⟩] 0x9F000001) idle =
    some (.record [(1, 9), (2, 1)]) := by decide +kernel
/-- V2: a list summing to 31. -/
theorem test_bfDec_bad : ret (.bfDec [⟨some 1, 15⟩, ⟨some 2, 16⟩] 0) idle = some (.error .bfDesc) := by
  decide +kernel
/-- V1. -/
theorem test_bfEnc : ret (.bfEnc [⟨some 1, 4⟩, ⟨none, 4⟩, ⟨some 2, 24⟩] [(1, 9), (2, 1)]) idle =
    some (.word 0x90000001) := by decide +kernel
/-- V8: a value one too large is refused, not masked. -/
theorem test_bfEnc_range : ret (.bfEnc [⟨some 1, 4⟩, ⟨some 2, 28⟩] [(1, 16), (2, 0)]) idle =
    some (.error .fieldRange) := by decide +kernel
/-- R90 first: a list summing to 31 is `E_BF_DESC` though the record lacks a value too. -/
theorem test_bfEnc_order : ret (.bfEnc [⟨some 1, 15⟩, ⟨some 2, 16⟩] [(1, 0)]) idle = some (.error .bfDesc) := by
  decide +kernel
/-- V4. -/
theorem test_hdrEnc : ret (.hdrEnc ⟨4, false, true, true, 3, 3, 15, 65535⟩) idle = some (.word 0x45FFFFFF) := by
  decide +kernel
/-- V4 under `LISTED`. -/
theorem test_hdrEnc_listed :
    ret (.hdrEnc ⟨4, false, true, true, 3, 3, 15, 65535⟩) { idle with params := { board with layout := .listed } } =
      some (.word 0xFFFFFFA4) := by decide +kernel
/-- V3, V6: the Header of V3; and the reserved bit alone is no field. -/
theorem test_hdrDec : ret (.hdrDec 0x1865000E) idle = some (.header ⟨1, true, false, false, 1, 2, 5, 14⟩) ∧
    ret (.hdrDec 0x02000000) idle = some (.header ⟨0, false, false, false, 0, 0, 0, 0⟩) := by decide +kernel
/-- V7. -/
theorem test_hdrDec_listed : ret (.hdrDec 0x02000000) { idle with params := { board with layout := .listed } } =
    some (.header ⟨0, false, false, false, 0, 0, 0, 512⟩) := by decide +kernel
/-- V9: no count is not count 0. -/
theorem test_trlEnc : ret (.trlEnc ⟨0xFFF, 0xABC, none⟩) idle = some (.word 0xFFFABC00) ∧
    ret (.trlEnc ⟨0, 0, some 0⟩) idle = some (.word 0x00000080) := by decide +kernel
/-- V11: count bits without `context_en` are ignored. -/
theorem test_trlDec : ret (.trlDec 0xC0040005) idle = some (.trailer ⟨0xC00, 0x400, none⟩) ∧
    ret (.trlDec 0x000000FF) idle = some (.trailer ⟨0, 0, some 127⟩) := by decide +kernel

/-! ## One step: packet codec -/

/-- V15. -/
theorem test_cidEnc : ret (.cidEnc ⟨0xABCDEF, 0x1234, 0x5678⟩) idle =
    some (.bytes (words [0x00ABCDEF, 0x12345678])) := by decide +kernel
/-- V15: the padding is ignored. -/
theorem test_cidDec : ret (.cidDec (words [0xFFABCDEF, 0x12345678])) idle =
    some (.classId ⟨0xABCDEF, 0x1234, 0x5678⟩) := by decide +kernel
/-- V30. -/
theorem test_tsEnc : ret (.tsEnc 1700000000250000000000 1 2) idle =
    some (.bytes (words [0x6553F100, 0x0000003A, 0x35294400])) := by decide +kernel
/-- V32: one second past the range. -/
theorem test_tsEnc_range : ret (.tsEnc (2 ^ 32 * 10 ^ 12) 1 0) idle = some (.error .tsRange) ∧
    ret (.tsEnc (2 ^ 32 * 10 ^ 12) 0 2) idle = some (.bytes (words [0, 0])) := by decide +kernel
/-- V33. -/
theorem test_tsDec : ret (.tsDec (some 0x6553F100) (some 0x3A35294400)) idle =
    some (.timestamp (some 1700000000250000000000)) := by decide +kernel
theorem test_tsDec_none : ret (.tsDec none none) idle = some (.timestamp none) := by decide +kernel

/-- V20's Packet. -/
def packetV20 : Packet :=
  ⟨1, 1, 2, none, 5, some 0x2A, some 1700000000250000000000, some 0xABCDEF, some 0x1234, some 0x5678,
    words [0x001002FF, 0xFFFE7FF8, 0x00234FFF], some ⟨0xC00, 0x400, some 3⟩⟩

/-- V20's bytes. -/
def bytesV20 : Bytes :=
  words [0x1C65000B, 0x0000002A, 0x00ABCDEF, 0x12345678, 0x6553F100, 0x0000003A, 0x35294400, 0x001002FF,
    0xFFFE7FF8, 0x00234FFF, 0xC0040083]

/-- V20: eleven words. -/
theorem test_pktSize : ret (.pktSize packetV20) idle = some (.nat 11) := by decide +kernel
/-- V20. -/
theorem test_pktEnc : ret (.pktEnc packetV20) idle = some (.bytes bytesV20) := by decide +kernel
/-- V26: a partial class identifier is reported before the missing timestamp. -/
theorem test_pktEnc_first_error :
    ret (.pktEnc ⟨0, 1, 0, none, 0, none, none, some 1, none, none, [], none⟩) idle = some (.error .classId) := by
  decide +kernel
/-- V20. -/
theorem test_pktDec : ret (.pktDec bytesV20) idle = some (.packet packetV20) := by decide +kernel
/-- V25: the reserved bit and a data packet's `tsm` are dropped, a whole second in the fraction is kept. -/
theorem test_pktDec_dropped : ret (.pktDec (words [0x03200004, 0x000000E8, 0xD4A51000, 0xDEADBEEF])) idle =
    some (.packet ⟨0, 0, 2, none, 0, none, some 1000000000000, none, none, none,
      [0xDE, 0xAD, 0xBE, 0xEF], none⟩) := by decide +kernel

/-! ## One step: sample packer, accumulator -/

/-- V42, V44. -/
theorem test_pack12 : ret (.pack12 [⟨0xFFFF, 0xFFFE⟩, ⟨0x8000, 0x7FFF⟩]) idle =
    some (.bytes [0xFF, 0xFF, 0xFE, 0x00, 0x0F, 0xFF]) := by decide +kernel
/-- V50: a partial group gives its first value only. -/
theorem test_unpack12 : ret (.unpack12 [0xAB, 0xCD, 0xEF, 0x12]) idle =
    some (.values [0xABC, 0xDEF, 0x120]) := by decide +kernel
theorem test_unpack12_pair : ret (.unpack12 [0xAB, 0xCD]) idle = some (.values [0xABC]) := by decide +kernel
/-- R151: at the end, in order; a chunk of `MAX_CHUNK` pairs is accepted. -/
theorem test_accPush : see (.accPush block) { live with acc := [⟨7, 7⟩] } State.acc = some (⟨7, 7⟩ :: block) := by
  decide +kernel
/-- R153: no step while a full block is pending. -/
theorem test_accPush_full : ret (.accPush [⟨7, 7⟩]) { live with acc := block } = some .held := by decide +kernel
/-- V61. -/
theorem test_accEmit :
    see .accEmit { idle with cfg := { boardCfg with sampleCount := 4 }, acc := [⟨1, 1⟩, ⟨2, 2⟩, ⟨3, 3⟩, ⟨4, 4⟩, ⟨5, 5⟩] }
      (fun t => (t.out, t.acc)) = some (.pairs [⟨1, 1⟩, ⟨2, 2⟩, ⟨3, 3⟩, ⟨4, 4⟩], [⟨5, 5⟩]) := by decide +kernel

/-! ## One step: limiter, meter -/

/-- V65: not due at the mark, due one tick later. -/
theorem test_rlDue : ret (.rlDue .out) { live with rlOutLast := some 100, now := 100 } = some (.bool false) ∧
    ret (.rlDue .out) { live with rlOutLast := some 100, now := 101 } = some (.bool true) := by decide +kernel
/-- V66's second interval, in microseconds: a tenth of a second. -/
theorem test_rlDue_ctx : ret (.rlDue .ctx) { live with rlCtxLast := some 5, now := 100004 } = some (.bool false) ∧
    ret (.rlDue .ctx) { live with rlCtxLast := some 5, now := 100005 } = some (.bool true) := by decide +kernel
/-- R161. -/
theorem test_rlMark : see (.rlMark .ctx) { live with now := 9 } (fun t => (t.rlOutLast, t.rlCtxLast)) =
    some (none, some 9) := by decide +kernel
/-- R162: the mark is made though the push drops. -/
theorem test_rlCall : see (.rlCall .out (.tryPush [3]))
    { live with oq := [[1], [2]], now := 9 } (fun t => (t.out, t.oq, t.rlOutLast, t.dropOqCnt)) =
      some (.full, [[1], [2]], some 9, 1) := by decide +kernel
/-- R162: no step while not due. -/
theorem test_rlCall_waits : ret (.rlCall .out .pop) { live with dq := [[1]], rlOutLast := some 0 } =
    some .held := by decide +kernel
/-- V68: the first observation. -/
theorem test_mtrObs_first : see (.mtrObs 44) idle State.mtr = some ⟨1, some 0, 0, 0, 0, 0, 0⟩ := by decide +kernel
/-- V68: the second, at 1000 ticks a second. -/
theorem test_mtrObs : see (.mtrObs 44)
    { idle with params := { board with tickHz := 1000 }, now := 10, mtr := ⟨1, some 0, 0, 0, 0, 0, 0⟩ } State.mtr =
      some ⟨0, some 10, 0, 10, 4400, 4400, 1⟩ := by decide +kernel

/-! ## One step: framer -/

/-- V70: exactly one second later. -/
theorem test_tsBlock : ret (.tsBlock 5000000) live = some (.nat 1700000001250000000000) := by decide +kernel
/-- V71: truncated, never accumulating. -/
theorem test_tsBlock_thirds :
    ret (.tsBlock 4) { idle with cfg := { boardCfg with sampleCount := 4, sampleRate := 3 } } =
      some (.nat 5333333333333) := by decide +kernel

/-- V75's packet for `BLK_IDX` 1. -/
def packetV75 : Bytes :=
  words [0x1861000D, 0x0000002A, 0x00ABCDEF, 0x12345678, 0x6553F100, 0x0000003A, 0x352C5140, 0x001002FF,
    0xFFFE7FF8, 0x00234FFF, 0x00000000, 0x5006FF90, 0x08064F9C]

/-- V75. -/
theorem test_frameData : see (.frameData block) { live with blkIdx := 1, seq := 1 }
    (fun t => (t.out, t.blkIdx, t.seq)) = some (.bytes packetV75, 2, 2) := by decide +kernel
/-- V77: the second block's time does not fit, and both counters still advance. -/
theorem test_frameData_late :
    see (.frameData []) { live with
      cfg := { boardCfg with sampleCount := 4, sampleRate := 4 }, t0 := (2 ^ 32 - 1) * 10 ^ 12, blkIdx := 1, seq := 1 }
      (fun t => (t.out, t.blkIdx, t.seq, t.encFail)) = some (.error .tsRange, 2, 2, false) := by decide +kernel

/-- V80's payload. -/
def payloadV80 : Bytes :=
  words [0x00010203, 0x04050607, 0x01312D00, 0x0C0D0E0F, 0x916F7200, 0x14151617, 0x18191A1B, 0x02625A00,
    0x20212223, 0x24252627, 0x28292A2B, 0x2C2D2E2F]

/-- V80. -/
theorem test_ctxPayload : ret .ctxPayload live = some (.bytes payloadV80) := by decide +kernel
/-- V81, the second packet. -/
theorem test_frameCtx :
    see (.frameCtx 1700000001000000000005) { live with cfg := { boardCfg with ctxFmt := 0xC94 }, ctxSeq := 3 }
      (fun t => (t.out, t.ctxSeq)) =
        some (.bytes (words [0x41630010, 0x6553F101, 0, 5] ++ payloadV80), 4) := by decide +kernel
/-- V81: `SEQ_FIXED`. -/
theorem test_frameCtx_fixed :
    see (.frameCtx 0) { live with cfg := { boardCfg with ctxFmt := 0x1004 }, ctxSeq := 3 }
      (fun t => (t.out, t.ctxSeq)) = some (.bytes (words [0x4000000D] ++ payloadV80), 3) := by decide +kernel

/-! ## One step: queues, host commands -/

/-- R195: below the capacity, and at it. -/
theorem test_qTryPush : see (.qTryPush (.dq [9])) { live with dq := [[8]] } (fun t => (t.out, t.dq)) =
    some (.ok, [[8], [9]]) := by decide +kernel
theorem test_qTryPush_full : see (.qTryPush (.dq [9])) { live with dq := [[7], [8]], dropDqCnt := 0xFFFFFFFF }
    (fun t => (t.out, t.dq, t.dropDq, t.dropDqCnt, t.errWord)) =
      some (.full, [[7], [8]], true, 0xFFFFFFFF, 0) := by decide +kernel
/-- R196. -/
theorem test_qPop : see (.qPop .dq) { live with dq := [[7], [8]] } (fun t => (t.out, t.dq)) =
    some (.bytes [7], [[8]]) := by decide +kernel
theorem test_qPop_empty : ret (.qPop .iq) live = some .held := by decide +kernel
/-- V85: all registers at reset. -/
theorem test_start_fails : see (.start clock) idle (fun t => (t.statusWord, t.errWord)) =
    some (0x00000002, 0x00008001) := by decide +kernel
/-- P1: `STATUS = 0x151` after a start; an earlier record and an earlier run's counters are gone. -/
theorem test_start : see (.start clock)
    { ready with cfgErr := true, errCode := 3, errOp := 0x80, dropDqCnt := 5, dropDq := true, blkIdx := 9, seq := 9 }
      (fun t => (t.statusWord, t.errWord, t.t0, t.dropDqCnt, t.blkIdx)) =
        some (0x151, 0, clock, 0, 0) := by decide +kernel
/-- R199. -/
theorem test_stop : see .stop live (fun t => t.statusWord) = some 0x155 := by decide +kernel
theorem test_stop_idle : see .stop ready (fun t => t.statusWord) = some 0 := by decide +kernel
/-- P4: the failure is recorded, and the first error is kept. -/
theorem test_hostDec : see (.hostDec [0, 0, 0, 2]) live (fun t => (t.out, t.statusWord, t.errWord, t.decFailCnt)) =
    some (.error .decSizeMismatch, 0x1151, 0x2622, 1) := by decide +kernel
theorem test_hostDec_again : see (.hostDec [0, 0, 0])
    { live with decFail := true, decFailCnt := 1, errCode := 0x22, errOp := 0x26 }
      (fun t => (t.out, t.errWord, t.decFailCnt)) = some (.error .decShort, 0x2622, 2) := by decide +kernel
/-- R260: a dead stage lives again and the configuration is 0; `NOW` stays. -/
theorem test_reset : next? .reset { live with oState := .dead, degraded := true, dq := [[1]], now := 6 } =
    some { idle with now := 6 } := by decide +kernel
/-- R20: written when idle, ignored while running. -/
theorem test_cfgWrite : see (.cfgWrite (.ctxTemplate 11 5)) ready (fun t => t.cfg.ctxTemplate.toList.drop 10) =
    some [0x28292A2B, 5] := by decide +kernel
theorem test_cfgWrite_running : see (.cfgWrite (.dqCap 5)) live (fun t => t.cfg) = some boardCfg := by
  decide +kernel
/-- R30, R20: P4's last `STATUS` before the stop; `CFG_BIT_RES` in its own 8 bits. -/
theorem test_regRead : ret (.regRead .status)
    { live with degraded := true, oState := .dead, cState := .done, dropDq := true, decFail := true } =
      some (.word 0x16D9) := by decide +kernel
theorem test_regRead_bitRes : ret (.regRead (.cfg .bitRes)) live = some (.byte 12) := by decide +kernel

/-! ## One step: the stages -/

/-- R201. -/
theorem test_pLoad : see .pLoad { live with iq := [[⟨1, 2⟩], []], acc := [⟨9, 9⟩] } (fun t => (t.acc, t.iq)) =
    some ([⟨9, 9⟩, ⟨1, 2⟩], [[]]) := by decide +kernel
/-- P1: disabled with a full block pending. -/
theorem test_pLoad_full : ret .pLoad { live with iq := [[]], acc := block } = some .held := by decide +kernel
/-- V75, R202. -/
theorem test_pEmit : see .pEmit { live with blkIdx := 1, seq := 1, acc := block ++ [⟨9, 9⟩], dq := [[1]] }
    (fun t => (t.dq, t.acc, t.seq, t.blkIdx)) = some ([[1], packetV75], [⟨9, 9⟩], 2, 2) := by decide +kernel
/-- V77. -/
theorem test_pEmit_late : see .pEmit { live with
      cfg := { boardCfg with sampleCount := 4, sampleRate := 4 }, t0 := (2 ^ 32 - 1) * 10 ^ 12, blkIdx := 1, seq := 1
      acc := block }
    (fun t => (t.encFail, t.errWord, t.seq, t.blkIdx, t.acc.length)) =
      some (true, 0x0000610A, 2, 2, 4) := by decide +kernel
/-- R204. -/
theorem test_oFetch : see .oFetch { live with dq := [[1], [2]] } (fun t => (t.oHold, t.oState, t.dq)) =
    some (some [1], .holding, [[2]]) := by decide +kernel
/-- R205, V68: the packet is queued and the meter observes its length. -/
theorem test_oSend : see .oSend { live with oState := .holding, oHold := some [1, 2], now := 4 }
    (fun t => (t.oq, t.oHold, t.oState, t.rlOutLast, t.mtr.last)) =
      some ([[1, 2]], none, .wait, some 4, some 4) := by decide +kernel
/-- P3: dropped, marked, and not observed. -/
theorem test_oSend_full : see .oSend { live with oState := .holding, oHold := some [1, 2], oq := [[8], [9]] }
    (fun t => (t.out, t.oHold, t.dropOqCnt, t.rlOutLast, t.mtr.last)) =
      some (.full, none, 1, some 0, none) := by decide +kernel
/-- V81, R207. -/
theorem test_cEmit : see (.cEmit 0) { live with now := 3 } (fun t => (t.oq, t.ctxSeq, t.rlCtxLast)) =
    some ([words [0x4000000D] ++ payloadV80], 1, some 3) := by decide +kernel
/-- P3: dropped, and still marked and counted. -/
theorem test_cEmit_full : see (.cEmit 0) { live with oq := [[1], [2]], now := 100000, rlCtxLast := some 0 }
    (fun t => (t.oq, t.ctxSeq, t.rlCtxLast, t.dropOqCnt)) = some ([[1], [2]], 1, some 100000, 1) := by decide +kernel
/-- P1: `CFG_CTX_FREQ = 0`. -/
theorem test_cExit : see .cExit { live with cfg := { boardCfg with ctxFreq := 0 } } State.statusWord =
    some 0x251 := by decide +kernel
/-- R208: a positive frequency keeps the stage. -/
theorem test_cExit_positive : ret .cExit live = some .held := by decide +kernel
/-- R199. -/
theorem test_pStop : see .pStop stopping State.statusWord = some 0x145 := by decide +kernel
/-- R199: the held packet is not sent. -/
theorem test_oStop : see .oStop { stopping with oState := .holding, oHold := some [1] }
    (fun t => (t.oHold, t.statusWord, t.oq)) = some (none, 0x115, []) := by decide +kernel
/-- R199. -/
theorem test_cStop : see .cStop stopping State.statusWord = some 0x055 := by decide +kernel
theorem test_cStop_done : ret .cStop { stopping with cState := .done } = some .held := by decide +kernel

/-! ## One step: the environment -/

/-- R210. -/
theorem test_tick : see (.tick 99) { live with now := 1 } State.now = some 100 := by decide +kernel
/-- R211. -/
theorem test_srcPush : see (.srcPush [⟨1, 2⟩]) live (fun t => (t.out, t.iq)) = some (.ok, [[⟨1, 2⟩]]) := by
  decide +kernel
theorem test_srcPush_full : see (.srcPush [⟨1, 2⟩]) { live with iq := [[], []] }
    (fun t => (t.out, t.iq, t.statusWord)) = some (.full, [[], []], 0x151) := by decide +kernel
/-- R212. -/
theorem test_snkPop : see .snkPop { live with oq := [[1], [2]] } (fun t => (t.out, t.oq)) =
    some (.bytes [1], [[2]]) := by decide +kernel
/-- P4: the stage's packet is lost, the first error is kept. -/
theorem test_stageFault : see (.stageFault .o)
    { live with cState := .done, decFail := true, errCode := 0x22, errOp := 0x26, oState := .holding, oHold := some [1] }
      (fun t => (t.oHold, t.statusWord, t.errWord)) = some (none, 0x12D9, 0x2622) := by decide +kernel
/-- R213, R241: the first error. -/
theorem test_stageFault_first : see (.stageFault .p) live State.errWord = some 0x8B40 := by decide +kernel

/-! ## One step: wire words and packets -/

theorem test_wordHeaderVita : ret (.wordHeaderVita ⟨1, true, false, false, 1, 2, 5, 14⟩) idle =
    some (.header ⟨1, true, false, false, 1, 2, 5, 14⟩) := by decide +kernel
theorem test_wordHeaderListed : ret (.wordHeaderListed ⟨1, true, false, false, 1, 2, 5, 14⟩) idle =
    some (.header ⟨1, true, false, false, 1, 2, 5, 14⟩) := by decide +kernel
/-- R96. -/
theorem test_wordTrailerVita : ret (.wordTrailerVita 0 1 false 127) idle = some (.trailer ⟨0, 1, none⟩) := by
  decide +kernel
theorem test_wordTrailerListed : ret (.wordTrailerListed 0xC00 0x400 true 3) idle =
    some (.trailer ⟨0xC00, 0x400, some 3⟩) := by decide +kernel
theorem test_wordStreamId : ret (.wordStreamId 0x2A) idle = some (.word 0x2A) := by decide +kernel
theorem test_wordClassId1 : ret (.wordClassId1 0xABCDEF) idle = some (.oui 0xABCDEF) := by decide +kernel
theorem test_wordClassId2 : ret (.wordClassId2 0x1234 0x5678) idle = some (.classCodes 0x1234 0x5678) := by
  decide +kernel
/-- V33. -/
theorem test_wordTsInt : ret (.wordTsInt 5) idle = some (.timestamp (some 5000000000000)) := by decide +kernel
theorem test_fieldTsFrac : ret (.fieldTsFrac 1000000000000) idle = some (.timestamp (some 1000000000000)) := by
  decide +kernel
/-- V50. -/
theorem test_fieldTriplet : ret (.fieldTriplet 0xABC 0xDEF) idle = some (.values [0xABC, 0xDEF]) := by
  decide +kernel
/-- S6, V80. -/
theorem test_fieldCtxPayload : ret (.fieldCtxPayload payloadV80) live =
    some (.ctxFields 20000000 2440000000 40000000 true) := by decide +kernel

/-- What a packet without a body reads as: type, `tsf` kind, count, `tsm`. -/
def bare (l : Layout) (tsm : Bool) : WirePacket := ⟨l, false, false, tsm, 0, 0, 9, 1, []⟩

/-- V21, V29: a type without a match bit. -/
def bareRead (pt : BitVec 4) (tsm : Option Bool) : Option Result :=
  some (.packet ⟨pt, 0, 0, tsm, 9, none, none, none, none, none, [], none⟩)

theorem test_pktPtData : ret (.pktPtData (bare .vita true)) idle = bareRead 0 none := by decide +kernel
/-- V27, R121: a type 1 packet has no room for its stream id in one word. -/
theorem test_pktPtDataWithId : ret (.pktPtDataWithId (bare .vita true)) idle = some (.error .decTruncated) ∧
    ret (.pktPtDataWithId ⟨.vita, false, false, true, 0, 0, 9, 2, [0, 0, 0, 0x2A]⟩) idle =
      some (.packet ⟨1, 0, 0, none, 9, some 0x2A, none, none, none, none, [], none⟩) := by decide +kernel
theorem test_pktPtExtData : ret (.pktPtExtData (bare .listed true)) idle = bareRead 2 none := by decide +kernel
/-- R64: no stream id in this type. -/
theorem test_pktPtExtDataWithId : ret (.pktPtExtDataWithId (bare .vita true)) idle = bareRead 3 none := by
  decide +kernel
/-- V22: the match bit is read. -/
theorem test_pktPtContext : ret (.pktPtContext (bare .vita true)) idle = bareRead 4 (some true) := by decide +kernel
theorem test_pktPtExtContext : ret (.pktPtExtContext (bare .listed false)) idle = bareRead 5 (some false) := by
  decide +kernel
/-- R75: unnamed types have no special handling. -/
theorem test_pktUnnamed6 : ret (.pktUnnamed6 (bare .vita true)) idle = bareRead 6 none := by decide +kernel
theorem test_pktUnnamed7 : ret (.pktUnnamed7 (bare .vita true)) idle = bareRead 7 none := by decide +kernel
theorem test_pktUnnamed8 : ret (.pktUnnamed8 (bare .vita true)) idle = bareRead 8 none := by decide +kernel
/-- V29. -/
theorem test_pktUnnamed9 : ret (.pktUnnamed9 (bare .vita true)) idle = bareRead 9 none := by decide +kernel
theorem test_pktUnnamed10 : ret (.pktUnnamed10 (bare .vita true)) idle = bareRead 10 none := by decide +kernel
theorem test_pktUnnamed11 : ret (.pktUnnamed11 (bare .vita true)) idle = bareRead 11 none := by decide +kernel
theorem test_pktUnnamed12 : ret (.pktUnnamed12 (bare .vita true)) idle = bareRead 12 none := by decide +kernel
theorem test_pktUnnamed13 : ret (.pktUnnamed13 (bare .vita true)) idle = bareRead 13 none := by decide +kernel
theorem test_pktUnnamed14 : ret (.pktUnnamed14 (bare .vita true)) idle = bareRead 14 none := by decide +kernel
theorem test_pktUnnamed15 : ret (.pktUnnamed15 (bare .listed true)) idle = bareRead 15 none := by decide +kernel

/-! ## Witnesses: for each statement with hypotheses, a state and operands that meet them, one for each
clause, at the ends of its range -/

theorem test_witness_DecodeInvertsEncode :
    WellFormed (.tick 1) = true ∧ WellFormed (.cidDec (List.replicate 8 0)) = true ∧
      WellFormed (.bfEnc [⟨some 1, 4⟩, ⟨none, 28⟩] [(1, 16)]) = true := by decide

theorem test_witness_CommandLeadsWithOpid : decode ⟨.command, [0x83, 7]⟩ = .ok .pEmit := by decide

/-- The operation completes; a stop with every stage out; and one that is refused. -/
theorem test_witness_StepRunsDecoded :
    decode ⟨.command, [0x81]⟩ = .ok .stop ∧
      { live with agenda := [⟨.command, [0x81]⟩] }.agenda = [⟨.command, [0x81]⟩] ∧
      (next? .stop { live with agenda := [] }).isSome = true ∧
      decode (encode (.srcPush (⟨0, 0⟩ :: block))) = .ok (.srcPush (⟨0, 0⟩ :: block)) ∧
      refuses (.srcPush (⟨0, 0⟩ :: block)) live = true := by
  decide +kernel

/-- One pair more than `MAX_CHUNK`; a command that is none; the shortest TICK. -/
theorem test_witness_StepOfAnythingElse :
    live.agenda = [] ∧ decode ⟨.command, []⟩ = .error .truncated ∧ decode ⟨.command, [0x88, 0]⟩ = .ok (.tick 1) ∧
      live.params.maxChunk < (⟨0, 0⟩ :: block).length := by
  decide +kernel

/-- One descriptor of 32 bits, and 32 of one bit with the last name given twice. -/
theorem test_witness_BfDecExtracts :
    IsLayout [⟨some 1, 32⟩] ∧ IsLayout (List.replicate 30 ⟨none, 1⟩ ++ [⟨some 1, 1⟩, ⟨some 1, 1⟩]) ∧
      ∀ j, 0 < j → ∀ y, [(⟨some 1, 32⟩ : Descriptor)][j]? = some y → y.name ≠ some 1 := by
  refine ⟨by decide, by decide, ?_⟩
  intro j hj y hy
  have : [(⟨some 1, 32⟩ : Descriptor)][j]? = none := by
    apply List.getElem?_eq_none
    simp only [List.length_singleton]
    omega
  rw [this] at hy
  cases hy

/-- Values at the top of their fields. -/
theorem test_witness_BfEncPlaces :
    IsLayout [⟨some 1, 4⟩, ⟨none, 4⟩, ⟨some 2, 24⟩] ∧
      recordCovers [⟨some 1, 4⟩, ⟨none, 4⟩, ⟨some 2, 24⟩] [(1, 15), (2, 2 ^ 24 - 1)] = true ∧
      ret (.bfEnc [⟨some 1, 4⟩, ⟨none, 4⟩, ⟨some 2, 24⟩] [(1, 15), (2, 2 ^ 24 - 1)]) idle =
        some (.word 0xF0FFFFFF) := by
  decide +kernel

theorem test_witness_BfRefuses :
    ¬ IsLayout [⟨some 1, 15⟩, ⟨none, 16⟩] ∧ ¬ IsLayout [⟨some 1, 32⟩, ⟨none, 0⟩] ∧
      recordCovers [⟨some 1, 15⟩, ⟨none, 16⟩] [(1, 0)] = true ∧ IsLayout [⟨some 1, 4⟩, ⟨none, 28⟩] ∧
      recordCovers [⟨some 1, 4⟩, ⟨none, 28⟩] [(1, 16)] = true ∧ 2 ^ 4 ≤ 16 := by
  decide +kernel

theorem test_witness_BfRoundTrips :
    IsLayout [⟨some 1, 4⟩, ⟨none, 28⟩] ∧ (([⟨some 1, 4⟩, ⟨none, 28⟩] : List Descriptor).filterMap Descriptor.name).Nodup ∧
      recordCovers [⟨some 1, 4⟩, ⟨none, 28⟩] [(1, 15)] = true ∧
      bfEnc [⟨some 1, 4⟩, ⟨none, 28⟩] [(1, 15)] = .ok 0xF0000000 ∧
      bfDec [⟨some 1, 4⟩, ⟨none, 28⟩] 0xFFFFFFFF = .ok [(1, 15)] := by
  decide +kernel

/-- The last second that fits. -/
theorem test_witness_TimestampWords :
    tsEnc ((2 ^ 32 - 1) * 10 ^ 12 + 5) 1 2 = .ok (words [0xFFFFFFFF, 0, 5]) := by decide +kernel

theorem test_witness_PktSizeFormula : packetV20.data.length % 4 = 0 := by decide

/-- An empty Packet of type 0. -/
def bareV21 : Packet := ⟨0, 0, 0, none, 0, none, none, none, none, none, [], none⟩

/-- A Packet for each of the six errors, each with everything an earlier clause asks, and V20's. -/
theorem test_witness_PktEncFollowsItsOrder :
    let p := bareV21
    ret (.pktEnc { p with oui := some 1 }) idle = some (.error .classId) ∧
      ret (.pktEnc { p with packetType := 1 }) idle = some (.error .sidMissing) ∧
      ret (.pktEnc { p with tsf := 1 }) idle = some (.error .tsMissing) ∧
      ret (.pktEnc { p with tsi := 1, timestamp := some (2 ^ 32 * 10 ^ 12) }) idle = some (.error .tsRange) ∧
      ret (.pktEnc { p with data := [1, 2, 3] }) idle = some (.error .payloadAlign) ∧
      ret (.pktEnc packetV20) idle = some (.bytes bytesV20) := by
  decide +kernel

theorem size_of_payload (b : Bytes) : pktSize { bareV21 with data := b } = 1 + b.length / 4 := rfl

/-- The sixth error and the longest packet: V26. The two clauses meet at 65535 words. -/
theorem test_witness_PktEncSizes : ∃ long longest : Bytes,
    pktSize { bareV21 with data := long } = 65536 ∧ pktSize { bareV21 with data := longest } = 65535 := by
  refine ⟨List.replicate (4 * 65535) 0, List.replicate (4 * 65534) 0, ?_, ?_⟩ <;>
    rw [size_of_payload, List.length_replicate]

/-- V27, one for each clause, and V21's one word. -/
theorem test_witness_PktDecRefusals :
    ret (.pktDec [0, 0, 0]) idle = some (.error .decShort) ∧
      ret (.pktDec [0, 0, 0, 1, 0]) idle = some (.error .decUnaligned) ∧
      ret (.pktDec (words [2])) idle = some (.error .decSizeMismatch) ∧
      ret (.pktDec (words [0x18600001])) idle = some (.error .decTruncated) ∧
      ret (.pktDec (words [1])) idle = some (.packet bareV21) := by
  decide +kernel

theorem test_witness_PktDecFields : pktDec .vita bytesV20 = .ok packetV20 := by decide +kernel

/-- V20, V21 and V22 are self-consistent. -/
theorem test_witness_PacketRoundTrip :
    SelfConsistent packetV20 ∧ SelfConsistent bareV21 ∧
      SelfConsistent { bareV21 with packetType := 4, tsm := some true, data := words [0x00010203] } :=
  ⟨⟨by decide +kernel, by decide, by decide, by decide, by decide, by decide⟩,
    ⟨by decide +kernel, by decide, by decide, by decide, by decide, by decide⟩,
    ⟨by decide +kernel, by decide, by decide, by decide, by decide, by decide⟩⟩

theorem test_witness_AcceptedBytesReencode :
    pktDec .vita bytesV20 = .ok packetV20 ∧ CanonicalWire .vita bytesV20 packetV20 := by
  refine ⟨by decide +kernel, ⟨by decide +kernel, by decide +kernel, by decide +kernel, by decide +kernel, ?_⟩⟩
  intro t ht hc
  have : packetV20.trailer = some ⟨0xC00, 0x400, some 3⟩ := rfl
  rw [this, Option.some.injEq] at ht
  subst ht
  cases hc

/-- V25's bytes come back with the reserved and `tsm` bits cleared and the whole second lost; a whole second
carried past the last that fits is `E_TS_RANGE`. -/
theorem test_witness_AcceptedBytesReencode_dropped :
    (pktDec .vita (words [0x03200004, 0x000000E8, 0xD4A51000, 0xDEADBEEF])).bind (pktEnc .vita) =
        .ok (words [0x00200004, 0, 0, 0xDEADBEEF]) ∧
      (pktDec .vita (words [0x00600004, 0xFFFFFFFF, 0x000000E8, 0xD4A51000])).bind (pktEnc .vita) =
        .error .tsRange := by
  decide +kernel

theorem test_witness_Pack12Triplets : ([⟨1, 2⟩] : Chunk)[0]? = some ⟨1, 2⟩ := by decide

/-- A partial group and a whole one. -/
theorem test_witness_Unpack12Values :
    3 * 1 < ([1, 2, 3, 4] : Bytes).length ∧ 3 * 0 + 3 ≤ ([1, 2, 3] : Bytes).length := by decide

theorem test_witness_PackerRoundTrips :
    ([0xAB, 0xCD, 0xEF] : Bytes).length % 3 = 0 ∧ unpack12 [0xAB, 0xCD, 0xEF] = [0xABC, 0xDEF] ∧
      ([⟨0x1ABC, 0xFDEF⟩] : Chunk).flatMap (fun x => [x.first.setWidth 12, x.second.setWidth 12]) = [0xABC, 0xDEF] := by
  decide +kernel

/-- A chunk of exactly `MAX_CHUNK` pairs on one pair less than a block; exactly a full block. -/
theorem test_witness_AccumulatorSteps :
    block.length = live.params.maxChunk ∧
      { live with acc := block.take 7 }.acc.length + 1 = live.cfg.sampleCount.toNat ∧ live.cfg.sampleCount.toNat = { live with acc := block }.acc.length := by
  decide

/-- V60's shape: nine pairs in two chunks, one block, one pair over. -/
theorem test_witness_AccumulatorLaw :
    ∃ t, AccumulatorRun live [[⟨9, 9⟩], block] [⟨9, 9⟩ :: block.take 7] t ∧ live.acc = [] ∧
      t.acc.length < live.cfg.sampleCount.toNat :=
  ⟨_, .push rfl rfl (.push rfl rfl (.emit rfl rfl (.nil _))), rfl, by decide⟩

/-- Due at its first call; due when exactly the interval has passed. -/
theorem test_witness_RlCallPerformsAndMarks :
    live.due .out = true ∧ { live with rlCtxLast := some 0, now := 100000 }.due .ctx = true ∧
      { live with dq := [[1]] }.dq ≠ [] ∧
      { live with oHold := some [1] }.oHold = some [1] := by
  decide +kernel

/-- Both ways a context packet's building can end. -/
theorem test_witness_RlCallBuilds :
    ret (.rlCall .ctx (.buildAndPush 0)) live = some .ok ∧
      ret (.rlCall .ctx (.buildAndPush (2 ^ 32 * 10 ^ 12))) { live with cfg := { boardCfg with ctxFmt := 0x14 } } =
        some (.error .tsRange) := by
  decide +kernel

/-- Two calls by the stage's own steps, the interval of one tick apart; the same by RL.CALL. -/
theorem test_witness_LimiterSpacing :
    LimiterRun .out { live with oState := .holding, oHold := some [1], dq := [[2]] } [0, 1] ∧
      LimiterRun .out live [0, 1] := by
  refine ⟨.send rfl rfl (by decide) (by decide) (by decide)
    (.other (i := .oFetch) rfl (by decide) (by decide) (by decide) (by decide)
      (.other (i := .tick 1) rfl (by decide) (by decide) (by decide) (by decide)
        (.send rfl rfl (by decide) (by decide) (by decide) (.nil _)))), ?_⟩
  exact .call (op := .mtrObs 5) rfl (by decide) (by decide) (by decide)
    (.other (i := .tick 1) rfl (by decide) (by decide) (by decide) (by decide)
      (.call (op := .tryPush []) rfl (by decide +kernel) (by decide) (by decide) (.nil _)))

/-- Two context packets, their interval of a tenth of a second apart. -/
theorem test_witness_LimiterSpacing_ctx : LimiterRun .ctx live [0, 100000] :=
  .emit (tod := 0) rfl rfl (by decide +kernel) (by decide +kernel) (by decide +kernel)
    (.other (i := .tick 100000) rfl (by decide +kernel) (by decide +kernel) (by decide +kernel) (by decide +kernel)
      (.emit (tod := 0) rfl rfl (by decide +kernel) (by decide +kernel) (by decide +kernel) (.nil _)))

/-- The first observation, one inside the window, and the one that closes it, at the largest window. -/
theorem test_witness_MeterObserves :
    live.mtr.cnt.toNat + 1 < live.params.mtrN ∧ live.mtr.last = none ∧
      (let s : State := { live with mtr := ⟨1, some 0, 0, 0, 0, 0, 0⟩, now := 10 }
       s.params.mtrN ≤ s.mtr.cnt.toNat + 1 ∧ s.mtr.cnt.toNat + 1 < 2 ^ 32 ∧ s.mtr.bytes.toNat + 44 < 2 ^ 64 ∧
        (∀ t, s.mtr.last = some t → t < s.now → 44 * s.params.tickHz / (s.now - t) < 2 ^ 64) ∧
        s.mtr.winStart < s.now ∧ (s.mtr.bytes.toNat + 44) * s.params.tickHz / (s.now - s.mtr.winStart) < 2 ^ 64) := by
  refine ⟨by decide, by decide, by decide, by decide, by decide, ?_, by decide, by decide⟩
  intro t ht _
  cases ht
  decide

theorem test_witness_MeterIsUnread : ∀ r, Instr.oSend ≠ .regRead r := by
  intro r h
  cases h

theorem test_witness_BlockTimes :
    live.cfg.sampleRate ≠ 0 ∧ live.cfg.sampleRate.toNat ≤ live.cfg.sampleCount.toNat * 10 ^ 12 ∧
      live.cfg.sampleRate.toNat ∣ live.cfg.sampleCount.toNat * 10 ^ 12 := by
  decide +kernel

theorem test_witness_FrameDataBuilds : live.cfg.sampleRate ≠ 0 := by decide

/-- An offset at the end of the payload; ranges that overlap. -/
theorem test_witness_CtxPayloadSubstitutes :
    OffsetsLegal 0x002C0804 ∧ (offBw 0x002C2C2A, offFreq 0x002C2C2A, offSr 0x002C2C2A) = (42, 44, 44) := by
  decide +kernel

theorem test_witness_OnlyTimestampsFailInARun :
    boardCfg.startError = none ∧ block.length = boardCfg.sampleCount.toNat ∧
      pktEnc .vita ({ live with t0 := 2 ^ 32 * 10 ^ 12 }.dataPacket block) = .error .tsRange ∧
      pktEnc .vita ({ live with cfg := { boardCfg with ctxFmt := 0x14 } }.contextPacket (2 ^ 32 * 10 ^ 12)) =
        .error .tsRange := by
  decide +kernel

theorem test_witness_OpenValuesStillComplete :
    { bareV21 with data := [1] }.data.length % 4 ≠ 0 ∧ idle.cfg.sampleRate = 0 ∧
      recordCovers [⟨some 1, 31⟩] [] = false ∧ ¬ IsLayout [⟨some 1, 31⟩] ∧ IsLayout [⟨some 1, 4⟩, ⟨some 2, 28⟩] ∧
      recordCovers [⟨some 1, 4⟩, ⟨some 2, 28⟩] [(1, 16)] = false ∧ 2 ^ 4 ≤ 16 := by decide

/-- Below and at each capacity; a chunk of `MAX_CHUNK` pairs. -/
theorem test_witness_PushesAppendOrDrop :
    live.dq.length < live.cfg.dqCap.toNat ∧ ¬ { live with dq := [[], []] }.dq.length < live.cfg.dqCap.toNat ∧
      block.length ≤ live.params.maxChunk ∧ live.running = true ∧ live.iq.length < live.params.iqCap ∧
      live.params.iqCap ≤ { live with iq := [[], []] }.iq.length ∧ live.params.inPushPolicy = .drop := by
  decide

theorem test_witness_PopTakesOldest :
    { live with dq := [[1]] }.dq = [[1]] ∧ { live with oq := [[1]] }.oq = [[1]] ∧
      { live with iq := [block] }.iq = [block] := by decide

theorem test_witness_QueuesAreFifo : (next? (.qPop .dq) { live with dq := [[1], [2]] }).isSome = true := by
  decide +kernel

/-- A block framed, fetched and sent, up to a drained point; and a packet given up by O.STOP. -/
theorem test_witness_PacketsAccounted :
    (∃ a t, DataRun { live with acc := block } a t ∧ a.framed = 1 ∧ a.entered.length = 1 ∧ Drained t ∧
      t.stopReq = false ∧ HoldMatchesState { live with acc := block }) ∧
    ∃ a t, DataRun { stopping with oState := .holding, oHold := some [1] } a t ∧ a.givenUp = 1 ∧ Drained t := by
  refine ⟨⟨_, _, .emitOk ⟨rfl, rfl, rfl, by decide +kernel⟩ rfl rfl (.other (i := .oFetch) (by decide) (by decide)
    (by decide) (by decide) (fun _ h => by cases h) ⟨rfl, rfl, rfl, by decide +kernel⟩
      (.sendOk ⟨rfl, rfl, rfl, by decide +kernel⟩ rfl rfl (.nil _))), rfl, rfl, by decide +kernel, by decide +kernel,
      by decide⟩, ?_⟩
  exact ⟨_, _, .giveUp (.inl rfl) ⟨rfl, rfl, rfl, by decide⟩ rfl (.nil _), rfl, by decide⟩

/-- A configuration that fails exactly each check and passes those before it (V85), one that passes all, and
the two states in which START is ignored. -/
theorem test_witness_StartFollowsItsChecks :
    Cfg.reset.startError = some .cfgBitRes ∧ { Cfg.reset with bitRes := 12 }.startError = some .cfgSampleRate ∧
      { boardCfg with sampleCount := 6 }.startError = some .cfgBlockSize ∧
      { boardCfg with sampleCount := 0 }.startError = some .cfgBlockSize ∧
      { boardCfg with dqCap := 0 }.startError = some .cfgQueueCap ∧
      { boardCfg with dataFmt := 0x400 }.startError = some .cfgReserved ∧
      { boardCfg with dataFmt := 0x090, sampleCount := 87376 }.startError = some .sizeOverflow ∧
      { boardCfg with dataFmt := 0x090, sampleCount := 87372 }.startError = none ∧
      { boardCfg with ctxOff := 0x00000A08 }.startError = some .cfgCtxTemplate ∧
      { boardCfg with ctxOff := 0x00000A08, ctxFreq := 0 }.startError = none ∧
      live.running = true ∧ { ready with degraded := true }.degraded = true ∧ ready.running = false := by
  decide +kernel

theorem test_witness_StopEndsTheRun :
    stopping.stopReq = true ∧ stopping.pState = .run ∧ stopping.oState = .wait ∧ stopping.cState = .run ∧
      { stopping with oState := .holding, oHold := some [1] }.oState = .holding ∧
      [Instr.oStop, .cStop, .pStop].Perm [.pStop, .oStop, .cStop] ∧
      { stopping with agenda := [encode .oStop, encode .cStop, encode .pStop] }.agenda =
        encode .oStop :: encode .cStop :: encode .pStop :: [] := by
  refine ⟨rfl, rfl, rfl, rfl, rfl, ?_, rfl⟩
  decide +kernel

theorem test_witness_HostDecRecords :
    pktDec .vita (words [1]) = .ok bareV21 ∧ pktDec .vita [] = .error .decShort := by decide +kernel

theorem test_witness_RegisterAccess :
    live.running = true ∧ ready.running = false ∧ CfgReg.ctxTemplate 11 ≠ assignReg (.ctxTemplate 10 0) := by decide

/-- P.LOAD at one pair below a full block. -/
theorem test_witness_StagesPull :
    let s : State := { live with acc := block.take 7, iq := [[]], dq := [[1]] }
    s.stopReq = false ∧ s.pState = .run ∧ s.acc.length < s.cfg.sampleCount.toNat ∧ s.iq = [[]] ∧ s.oState = .wait ∧
      s.dq = [[1]] := by decide

/-- A block that is queued, and V77's that cannot be framed. -/
theorem test_witness_PEmitFramesAndPushes :
    let s : State := { live with acc := block, blkIdx := 1, seq := 1 }
    s.pState = .run ∧ s.stopReq = false ∧ s.cfg.sampleCount.toNat ≤ s.acc.length ∧
      pktEnc s.params.layout (s.dataPacket (s.acc.take 8)) = .ok packetV75 ∧
      pktEnc s.params.layout ({ s with t0 := 2 ^ 32 * 10 ^ 12 }.dataPacket (s.acc.take 8)) = .error .tsRange := by
  decide +kernel

/-- The limiter due exactly at its interval of one tick. -/
theorem test_witness_OSendPushesOnce :
    let s : State := { live with oState := .holding, oHold := some [1], rlOutLast := some 3, now := 4 }
    s.oState = .holding ∧ s.stopReq = false ∧ s.oHold = some [1] ∧
      ∀ t, s.rlOutLast = some t → (s.cfg.sampleCount.toNat : Int) * s.params.tickHz
        ≤ ((s.now : Int) - t) * s.cfg.sampleRate.toNat := by
  refine ⟨rfl, rfl, rfl, ?_⟩
  intro t ht
  cases ht
  decide +kernel

/-- Frequency 0, and a positive one due exactly at its interval, with both ends of the building. -/
theorem test_witness_ContextStageSteps :
    let s : State := { live with rlCtxLast := some 0, now := 100000 }
    s.cState = .run ∧ s.stopReq = false ∧ 0 < s.cfg.ctxFreq.toInt ∧ Cfg.reset.ctxFreq.toInt ≤ 0 ∧
      (∀ t, s.rlCtxLast = some t → (s.params.tickHz : Int) ≤ ((s.now : Int) - t) * s.cfg.ctxFreq.toInt) ∧
      pktEnc s.params.layout (s.contextPacket 0) = .ok (words [0x4000000D] ++ payloadV80) ∧
      pktEnc s.params.layout ({ s with cfg := { boardCfg with ctxFmt := 0x14 } }.contextPacket (2 ^ 32 * 10 ^ 12)) =
        .error .tsRange := by
  refine ⟨rfl, rfl, by decide, by decide, ?_, by decide +kernel, by decide +kernel⟩
  intro t ht
  cases ht
  decide +kernel

/-- Each step that waits, at the end of the range in which it does. -/
theorem test_witness_DisabledStepsChangeNothing :
    let late : State := { live with rlOutLast := some 0, rlCtxLast := some 0, now := 0 }
    { live with acc := block.take 7 }.acc.length < live.cfg.sampleCount.toNat ∧
      live.cfg.sampleCount.toNat ≤ { live with acc := block }.acc.length ∧ live.dq = [] ∧ live.oq = [] ∧
      live.iq = [] ∧ late.due .out = false ∧ { late with now := 99999 }.due .ctx = false ∧
      live.oHold = none ∧ live.oState ≠ .holding ∧ live.stopReq = false ∧
      idle.pState ≠ .run ∧ idle.oState ≠ .wait ∧ idle.cState ≠ .run ∧ idle.running = false ∧
      idle.cfg.ctxFreq.toInt ≤ 0 ∧ 0 < live.cfg.ctxFreq.toInt ∧
      { live with params := { board with inPushPolicy := .block }, iq := [[], []] }.params.inPushPolicy = .block := by
  decide +kernel

theorem test_witness_OnlyTickMovesTime :
    (next? .oSend live).isSome = true ∧ ∀ n, Instr.oSend ≠ .tick n := by
  exact ⟨by decide +kernel, by intro n h; cases h⟩

theorem test_witness_StageFaultKillsOneStage :
    live.pState = .run ∧ live.oState = .wait ∧ live.cState = .run ∧
      { live with oState := .holding, oHold := some [1] }.oState = .holding := by decide

theorem test_witness_WireWordsRead : payloadV80.length = 48 ∧ OffsetsLegal live.cfg.ctxOff := by decide +kernel

/-- The running state of these tests is legal, so a legal state need not be idle. -/
theorem test_witness_legal : Legal live :=
  ⟨by decide, by decide, by decide, by decide, by decide, by decide, by decide, by decide, by decide +kernel, by decide,
    by decide, by decide, by decide, by decide⟩

theorem test_witness_StepKeepsLegal :
    ∃ t, step { live with agenda := [encode (.srcPush block)] } = .next t ∧ t.iq = [block] := ⟨_, rfl, by decide⟩

theorem test_witness_OnlyResetRevives :
    let s : State := { live with pState := .dead, oState := .dead, cState := .dead, degraded := true }
    DegradedIffDead s ∧ (next? .stop s).isSome = true ∧ Instr.stop ≠ .reset := by decide +kernel

theorem test_witness_ConfigIsFrozenInARun :
    let s : State := { live with agenda := [encode (.cfgWrite (.dqCap 9))] }
    s.running = true ∧ (∃ t, step s = .next t) ∧ decode s.fetch.1 ≠ .ok .reset := by
  exact ⟨rfl, ⟨_, rfl⟩, by decide +kernel⟩

theorem test_witness_FirstErrorAndFlagsStick :
    let s : State := { live with
      errCode := 0x22, errOp := 0x26, decFail := true, decFailCnt := 1
      dropDq := true, dropOq := true, encFail := true, stopReq := true }
    (next? (.hostDec []) s).isSome = true ∧ s.errCode ≠ 0 ∧ s.dropDq = true ∧ s.dropOq = true ∧ s.encFail = true := by
  decide +kernel

theorem test_witness_RegistersHaveOwners :
    (next? .pEmit { live with acc := block }).isSome = true ∧ Instr.pEmit ≠ .reset ∧ ∀ tod, Instr.pEmit ≠ .start tod := by
  exact ⟨by decide +kernel, by decide, by intro tod h; cases h⟩

/-! ## A fair run: a list of moves and then TICK for ever -/

/-- The state after a move. -/
def after (i : Instr) (s : State) : State :=
  match afterStep (exec i s) with
  | .next t => t
  | .fault _ => s
  | .refused _ => s

def pathState : List Instr → State → Nat → State
  | _, s, 0 => s
  | [], s, n + 1 => pathState [] (after (.tick 1) s) n
  | i :: is, s, n + 1 => pathState is (after i s) n

def pathMove : List Instr → Nat → Instr
  | [], _ => .tick 1
  | i :: _, 0 => i
  | _ :: is, n + 1 => pathMove is n

/-- A step of an agent with its guard true. -/
def canTake (i : Instr) (s : State) : Bool :=
  (agentOf i).isSome && WellFormed i && match afterStep (exec i s) with
    | .next t => decide (t.out ≠ .held)
    | .fault _ => false
    | .refused _ => false

def pathOk : List Instr → State → Bool
  | [], _ => true
  | i :: is, s => canTake i s && pathOk is (after i s)

/-- No stage has a step, and none gets one by TICK. -/
def quiet (s : State) : Bool :=
  (s.pState != .run || (!s.stopReq && decide (s.acc.length < s.cfg.blockSize) && s.iq.isEmpty)) &&
    ((s.oState != .wait && s.oState != .holding) || (!s.stopReq && s.oState == .wait && s.dq.isEmpty)) &&
    s.cState != .run

theorem takes_of_canTake {i : Instr} {s : State} (h : canTake i s = true) : Takes i s (after i s) := by
  simp only [canTake, Bool.and_eq_true] at h
  refine ⟨h.1.1, h.1.2, ?_⟩
  have h2 := h.2
  cases hx : afterStep (exec i s) with
  | next t => simp only [hx, decide_eq_true_eq] at h2; simpa [after, hx] using h2
  | fault r => simp [hx] at h2
  | refused r => simp [hx] at h2

theorem canTake_tick (s : State) : canTake (.tick 1) s = true := by
  obtain ⟨-, -, h⟩ | ⟨-, h⟩ := completeStop_cases { s with now := s.now + 1, out := .done } <;>
    simp [canTake, agentOf, WellFormed, exec, execTick, finish, afterStep, h]

theorem pathState_succ (is : List Instr) (s : State) (n : Nat) :
    pathState is s (n + 1) = after (pathMove is n) (pathState is s n) := by
  induction n generalizing is s with
  | zero => cases is <;> rfl
  | succ n ih => cases is <;> exact ih _ _

theorem path_taken {is : List Instr} {s : State} (h : pathOk is s = true) (n : Nat) :
    Takes (pathMove is n) (pathState is s n) (pathState is s (n + 1)) := by
  rw [pathState_succ]
  refine takes_of_canTake ?_
  induction n generalizing is s with
  | zero =>
    cases is with
    | nil => exact canTake_tick _
    | cons i is => exact (Bool.and_eq_true_iff.mp h).1
  | succ n ih =>
    cases is with
    | nil => exact ih (is := []) rfl
    | cons i is => exact ih (is := is) (Bool.and_eq_true_iff.mp h).2

theorem quiet_tick {s : State} (h : quiet s = true) : quiet (after (.tick 1) s) = true := by
  obtain ⟨-, -, hc⟩ | ⟨-, hc⟩ := completeStop_cases { s with now := s.now + 1, out := .done } <;>
    simpa [after, exec, execTick, finish, afterStep, hc, quiet] using h

theorem path_quiet {is : List Instr} {s : State} (h : quiet (pathState is s is.length) = true) (k : Nat) :
    quiet (pathState is s (is.length + k)) = true := by
  have tail : ∀ (k : Nat) (s : State), quiet s = true → quiet (pathState [] s k) = true := by
    intro k
    induction k with
    | zero => exact fun _ h => h
    | succ k ih => exact fun s h => ih _ (quiet_tick h)
  induction is generalizing s with
  | nil => simpa using tail k s h
  | cons i is ih =>
    rw [List.length_cons, Nat.add_right_comm]
    exact ih h

/-- What a quiet state looks like, stage by stage. -/
theorem quiet_iff (s : State) : quiet s = true ↔
    (s.pState ≠ .run ∨ (s.stopReq = false ∧ s.acc.length < s.cfg.blockSize ∧ s.iq = [])) ∧
      ((s.oState ≠ .wait ∧ s.oState ≠ .holding) ∨ (s.stopReq = false ∧ s.oState = .wait ∧ s.dq = [])) ∧
      s.cState ≠ .run := by
  simp [quiet, and_assoc]

theorem quiet_holds {s : State} (h : quiet s = true) (i : Instr) (g : Stage)
    (hi : agentOf i = some (.stage g)) : exec i s = hold s := by
  obtain ⟨hp, ho, hc⟩ := (quiet_iff s).mp h
  cases i <;> simp only [agentOf, reduceCtorEq, Option.some.injEq] at hi
  case pLoad => rcases hp with hp | ⟨-, -, hp⟩ <;> simp [exec, execPLoad, State.canLoad, hp]
  case pEmit =>
    rcases hp with hp | ⟨-, hp, -⟩
    · simp [exec, execPEmit, State.canEmit, hp]
    · simp [exec, execPEmit, State.accTake, Nat.not_le.mpr hp]
  case oFetch =>
    rcases ho with ⟨ho, -⟩ | ⟨-, -, ho⟩ <;> simp [exec, execOFetch, State.canFetch, ho]
  case oSend =>
    rcases ho with ⟨-, ho⟩ | ⟨-, ho, -⟩ <;> simp [exec, execOSend, State.canSend, ho]
  case cEmit => simp [exec, execCEmit, State.canEmitContext, hc]
  case cExit => simp [exec, execCExit, State.canExit, hc]
  case pStop => rcases hp with hp | ⟨hp, -, -⟩ <;> simp [exec, execPStop, State.stageRunning, hp]
  case oStop => rcases ho with ⟨ho, ho'⟩ | ⟨ho, -, -⟩ <;> simp [exec, execOStop, State.stageRunning, *]
  case cStop => simp [exec, execCStop, State.stageRunning, hc]

theorem quiet_disables {s : State} (h : quiet s = true) (i : Instr) (g : Stage)
    (hi : agentOf i = some (.stage g)) : ¬ Enabled i s := by
  rintro ⟨t, ht⟩
  obtain ⟨u, hu, ho, -⟩ := takes_cases ht
  rw [quiet_holds h i g hi, hold_eq_next] at hu
  exact ho (by rw [hu])

/-- An operation with a stage step's OPID is a stage step. -/
theorem stage_of_opid {i j : Instr} {g : Stage} (hi : agentOf i = some (.stage g)) (h : opid j = opid i) :
    ∃ g', agentOf j = some (.stage g') := by
  have hi' : opid i ∈ [some 0x82, some 0x83, some 0x84, some 0x85, some 0x86, some 0x87, some 0x8E, some 0x8F,
      some (0x90 : Byte)] := by
    cases i <;> simp only [agentOf, reduceCtorEq, Option.some.injEq] at hi <;> simp [opid]
  rw [← h] at hi'
  cases j <;> first | exact ⟨_, rfl⟩ | (exfalso; revert hi'; simp only [opid]; decide)

/-- A list of moves that can be taken and leads to a quiet state begins a weakly fair run. -/
theorem fair_path {is : List Instr} {s : State} (h : pathOk is s = true)
    (hq : quiet (pathState is s is.length) = true) :
    ∃ r : Run, r.state = pathState is s ∧ WeaklyFair r := by
  refine ⟨⟨pathState is s, pathMove is, path_taken h⟩, rfl, ?_, ?_⟩
  · intro i g n hi
    refine ⟨is.length + n, by omega, .inr ?_⟩
    intro j hj
    obtain ⟨g', hg⟩ := stage_of_opid hi hj
    exact quiet_disables (path_quiet hq n) j g' hg
  · intro n
    refine ⟨is.length + n, 1, by omega, ?_⟩
    show pathMove is (is.length + n) = _
    clear h hq
    induction is with
    | nil => simp [pathMove]
    | cons i is ih => rw [List.length_cons, Nat.add_right_comm]; exact ih

/-- A block on its way to the sink, and a context stage with nothing to do. -/
def flowing : State := { live with cfg := { boardCfg with ctxFreq := 0 }, iq := [block] }

/-- A weakly fair run that meets each clause but the last two: a chunk to load, a block to emit, a packet to
fetch, one to send, a context stage to exit. -/
theorem test_witness_HoldsAreLifted : ∃ r : Run, WeaklyFair r ∧ Legal (r.state 0) ∧
    (let s := r.state 0
     s.stopReq = false ∧ s.pState = .run ∧ s.acc.length < s.cfg.sampleCount.toNat ∧ s.iq ≠ []) ∧
    (let s := r.state 1
     s.stopReq = false ∧ s.pState = .run ∧ s.cfg.sampleCount.toNat ≤ s.acc.length) ∧
    (let s := r.state 2
     s.stopReq = false ∧ s.oState = .wait ∧ s.dq ≠ []) ∧
    (let s := r.state 3
     s.stopReq = false ∧ s.oState = .holding) ∧
    (let s := r.state 4
     s.stopReq = false ∧ s.cState = .run ∧ s.cfg.ctxFreq.toInt ≤ 0) := by
  obtain ⟨r, hr, hf⟩ := fair_path (is := [.pLoad, .pEmit, .oFetch, .oSend, .cExit]) (s := flowing)
    (by decide +kernel) (by decide +kernel)
  refine ⟨r, hf, ?_⟩
  rw [hr]
  exact ⟨⟨by decide, by decide, by decide, by decide, by decide, by decide, by decide, by decide, by decide +kernel,
    by decide, by decide, by decide, by decide, by decide⟩, by decide +kernel, by decide +kernel, by decide +kernel,
    by decide +kernel, by decide +kernel⟩

/-- The last two: a context packet to build, and a stop to complete. -/
theorem test_witness_HoldsAreLifted_stop : ∃ r : Run, WeaklyFair r ∧ Legal (r.state 0) ∧
    (let s := r.state 0
     s.stopReq = false ∧ s.cState = .run ∧ 0 < s.cfg.ctxFreq.toInt) ∧
    (r.state 2).stopReq = true ∧ (r.state 2).running = true := by
  obtain ⟨r, hr, hf⟩ := fair_path (is := [.cEmit 0, .stop, .pStop, .oStop, .cStop]) (s := live)
    (by decide +kernel) (by decide +kernel)
  refine ⟨r, hf, ?_⟩
  rw [hr]
  exact ⟨test_witness_legal, by decide +kernel, by decide +kernel, by decide +kernel⟩


end Sys2Proof.Tests
end

section
/-! PROOF. O50: `TICK` alone moves `NOW`, and no operation writes a parameter. The relation `KeepsClock`
composes, so each shared operation is shown once to keep the clock, and each meaning follows from how it is
put together out of them. -/

namespace Sys2Proof.Machine

/-! ### Keeping the clock and the parameters -/

/-- `t` has the parameters and the `NOW` of `s` (R5, R33). -/
structure KeepsClock (s t : State) : Prop where
  params : t.params = s.params
  now : t.now = s.now

/-- Every next state that the meaning answers keeps the clock of `s`. -/
def AnswerKeepsClock (s : State) (a : Answer) : Prop := ∀ t, a = .next t → KeepsClock s t

theorem KeepsClock.refl (s : State) : KeepsClock s s := ⟨rfl, rfl⟩

theorem KeepsClock.trans {s t u : State} (h : KeepsClock s t) (k : KeepsClock t u) : KeepsClock s u :=
  ⟨k.params.trans h.params, k.now.trans h.now⟩

/-- The shape in which the `_cases` lemmas name the state of a pair. -/
theorem KeepsClock.of_pair_eq {s t : State} {r : Result} {p : State × Result} (h : p = (t, r))
    (k : KeepsClock s p.1) : KeepsClock s t := by
  subst h
  exact k

/-! ### How a meaning ends -/

theorem AnswerKeepsClock.finish {s u : State} {r : Result} (h : KeepsClock s u) :
    AnswerKeepsClock s (finish u r) := by
  intro t ht
  obtain rfl := (finish_eq_next u t r).mp ht
  exact ⟨h.params, h.now⟩

theorem AnswerKeepsClock.hold (s : State) : AnswerKeepsClock s (hold s) := .finish (.refl s)

theorem AnswerKeepsClock.refused (s : State) (why : Refusal) : AnswerKeepsClock s (.refused why) :=
  fun _ ht => nomatch ht

theorem AnswerKeepsClock.ite {s : State} {c : Prop} [Decidable c] {a b : Answer}
    (ha : AnswerKeepsClock s a) (hb : AnswerKeepsClock s b) : AnswerKeepsClock s (if c then a else b) := by
  split
  · exact ha
  · exact hb

theorem AnswerKeepsClock.finishOrHold {s : State} {o : Option (State × Result)}
    (h : ∀ u r, o = some (u, r) → KeepsClock s u) : AnswerKeepsClock s (finishOrHold s o) := by
  cases o with
  | none => exact .hold s
  | some a => exact .finish (h a.1 a.2 rfl)

/-! ### The shared operations -/

theorem recordError_keepsClock (s : State) (e : ErrCode) (op : BitVec 8) : KeepsClock s (s.recordError e op) :=
  ⟨s.recordError_params e op, s.recordError_now e op⟩

theorem encodeFailed_keepsClock (s : State) (e : ErrCode) (op : BitVec 8) : KeepsClock s (s.encodeFailed e op) :=
  .trans (t := { s with encFail := true }) ⟨rfl, rfl⟩ (recordError_keepsClock _ e op)

theorem decodeFailed_keepsClock (s : State) (e : ErrCode) : KeepsClock s (s.decodeFailed e) :=
  .trans (t := { s with decFail := true, decFailCnt := satInc s.decFailCnt }) ⟨rfl, rfl⟩
    (recordError_keepsClock _ e opPktDec)

theorem killStage_keepsClock (s : State) (g : Stage) : KeepsClock s (s.killStage g) := by
  refine .trans ?_ (recordError_keepsClock _ .stageFault opStageFault)
  cases g <;> exact ⟨rfl, rfl⟩

theorem mark_keepsClock (s : State) (l : Limiter) : KeepsClock s (s.mark l) := by
  cases l with
  | out => exact ⟨s.markOut_params, s.markOut_now⟩
  | ctx => exact ⟨s.markCtx_params, s.markCtx_now⟩

theorem draw_keepsClock (s : State) : KeepsClock s s.draw := ⟨s.draw_params, s.draw_now⟩

theorem observe_keepsClock (s : State) (n : Nat) : KeepsClock s (s.observe n) := by
  obtain ⟨m, hm⟩ := observe_eq s n
  rw [hm]
  exact ⟨rfl, rfl⟩

theorem observeIfOk_keepsClock (s : State) (r : Result) (n : Nat) : KeepsClock s (s.observeIfOk r n) := by
  unfold State.observeIfOk
  split
  · exact observe_keepsClock s n
  · exact .refl s

theorem tryPush_keepsClock (s : State) (item : QueueItem) : KeepsClock s (s.tryPush item).1 := by
  obtain ⟨_, -, -, h⟩ | ⟨_, -, -, h⟩ | ⟨_, -, -, h⟩ | ⟨_, -, -, h⟩ | ⟨_, -, -, h⟩ | ⟨_, -, -, h⟩ :=
    tryPush_cases s item <;> rw [h] <;> exact ⟨rfl, rfl⟩

theorem pop_keepsClock {s t : State} {q : QueueId} {r : Result} (h : s.pop q = some (t, r)) :
    KeepsClock s t := by
  obtain ⟨_, _, -, -, rfl, -⟩ | ⟨_, _, -, -, rfl, -⟩ | ⟨_, _, -, -, rfl, -⟩ := pop_cases h <;> exact ⟨rfl, rfl⟩

theorem sourcePush_keepsClock {s t : State} {c : Chunk} {r : Result} (h : s.sourcePush c = some (t, r)) :
    KeepsClock s t := by
  obtain ⟨-, rfl, -⟩ | ⟨-, -, rfl, -⟩ := sourcePush_cases h <;> exact ⟨rfl, rfl⟩

theorem frameData_keepsClock (s : State) (blk : Chunk) : KeepsClock s (s.frameData blk).1 := by
  rw [frameData_eq]
  exact ⟨rfl, rfl⟩

theorem frameCtx_keepsClock (s : State) (tod : BitVec 96) : KeepsClock s (s.frameCtx tod).1 := by
  obtain ⟨c, hc⟩ := frameCtx_eq s tod
  rw [hc]
  exact ⟨rfl, rfl⟩

theorem frameAndPush_keepsClock (s : State) (blk : Chunk) : KeepsClock s (s.frameAndPush blk).1 := by
  refine (frameData_keepsClock s blk).trans ?_
  obtain ⟨e, -, h⟩ | ⟨b, -, h⟩ := frameAndPush_cases s blk <;> rw [h]
  · exact encodeFailed_keepsClock _ e opFrameData
  · exact tryPush_keepsClock _ (.dq b)

theorem buildAndPush_keepsClock (s : State) (tod : BitVec 96) : KeepsClock s (s.buildAndPush tod).1 := by
  refine (frameCtx_keepsClock s tod).trans ?_
  obtain ⟨e, -, h⟩ | ⟨b, -, h⟩ := buildAndPush_cases s tod <;> rw [h]
  · exact encodeFailed_keepsClock _ e opFrameCtx
  · exact tryPush_keepsClock _ (.oq b)

theorem runWrapped_keepsClock {s t : State} {l : Limiter} {op : WrappedOp l} {r : Result}
    (h : s.runWrapped op = some (t, r)) : KeepsClock s t := by
  cases l with
  | out =>
    obtain ⟨pkt, -, ht⟩ | ⟨-, ht⟩ | ⟨n, -, rfl, -⟩ | ⟨pkt, -, -, ht⟩ := runWrapped_out_cases h
    · exact .of_pair_eq ht.symm (tryPush_keepsClock s (.oq pkt))
    · exact pop_keepsClock ht
    · exact observe_keepsClock s n
    · exact .of_pair_eq ht.symm (tryPush_keepsClock s (.oq pkt))
  | ctx =>
    obtain ⟨pkt, -, ht⟩ | ⟨-, rfl, -⟩ | ⟨tod, -, rfl, -⟩ | ⟨p, -, rfl, -⟩ | ⟨tod, -, ht⟩ := runWrapped_ctx_cases h
    · exact .of_pair_eq ht.symm (tryPush_keepsClock s (.oq pkt))
    · exact draw_keepsClock s
    · exact frameCtx_keepsClock s tod
    · exact .refl _
    · exact .of_pair_eq ht.symm (buildAndPush_keepsClock s tod)

theorem limiterCall_keepsClock {s t : State} {l : Limiter} {op : WrappedOp l} {r : Result}
    (h : s.limiterCall l op = some (t, r)) : KeepsClock s t := by
  obtain ⟨-, u, hu, rfl⟩ := limiterCall_cases h
  exact (runWrapped_keepsClock hu).trans (mark_keepsClock u l)

/-! ### The meanings that branch -/

theorem execAccEmit_keepsClock (s : State) : AnswerKeepsClock s (execAccEmit s) := by
  refine .finishOrHold fun u r hu => ?_
  obtain ⟨⟨v, blk⟩, hv, he⟩ := Option.map_eq_some_iff.mp hu
  obtain ⟨-, rfl, -⟩ := accTake_cases hv
  obtain ⟨rfl, -⟩ := Prod.mk.inj he
  exact ⟨rfl, rfl⟩

theorem execStart_keepsClock (tod : BitVec 96) (s : State) : AnswerKeepsClock s (execStart tod s) := by
  refine .ite (.finish (.refl s)) ?_
  split
  · next e _ => exact .finish ⟨s.startFailed_params e, s.startFailed_now e⟩
  · exact .finish ⟨rfl, rfl⟩

theorem execHostDec_keepsClock (b : Bytes) (s : State) : AnswerKeepsClock s (execHostDec b s) := by
  unfold execHostDec
  split
  · next e _ => exact .finish (decodeFailed_keepsClock s e)
  · exact .finish (.refl s)

theorem execPLoad_keepsClock (s : State) : AnswerKeepsClock s (execPLoad s) := by
  intro t ht
  obtain rfl | ⟨c, rest, -, -, -, -, rfl⟩ := execPLoad_cases ht <;> exact ⟨rfl, rfl⟩

theorem execPEmit_keepsClock (s : State) : AnswerKeepsClock s (execPEmit s) := by
  intro t ht
  obtain rfl | ⟨u, r, -, -, -, hu, rfl⟩ := execPEmit_cases ht
  · exact ⟨rfl, rfl⟩
  · have hf : KeepsClock _ u := .of_pair_eq hu (frameAndPush_keepsClock _ _)
    exact ⟨hf.params, hf.now⟩

theorem execOFetch_keepsClock (s : State) : AnswerKeepsClock s (execOFetch s) := by
  intro t ht
  obtain rfl | ⟨pkt, rest, -, -, -, rfl⟩ := execOFetch_cases ht <;> exact ⟨rfl, rfl⟩

theorem execOSend_keepsClock (s : State) : AnswerKeepsClock s (execOSend s) := by
  intro t ht
  obtain rfl | ⟨pkt, u, r, -, -, -, -, hu, rfl⟩ := execOSend_cases ht
  · exact ⟨rfl, rfl⟩
  · have hp : KeepsClock s u := .of_pair_eq hu (tryPush_keepsClock s (.oq pkt))
    have ho := (hp.trans (mark_keepsClock u .out)).trans (observeIfOk_keepsClock _ r pkt.length)
    exact ⟨ho.params, ho.now⟩

/-! ### Every operation -/

/-- Every operation but TICK keeps `NOW` and the parameters (R33; log 5). The last group is that of the
operations that end in one `finish` of a state whose `NOW` and parameters are written as those of `s`. -/
theorem exec_keepsClock {i : Instr} (hi : ∀ n, i ≠ .tick n) (s : State) : AnswerKeepsClock s (exec i s) := by
  cases i
  case tick n => exact absurd rfl (hi n)
  case bfEnc | pktSize => exact .ite (.finish (.refl s)) (.finish (draw_keepsClock s))
  case accPush => exact .ite (.ite (.finish ⟨rfl, rfl⟩) (.hold s)) (.refused s _)
  case accEmit => exact execAccEmit_keepsClock s
  case rlMark l => exact .finish (mark_keepsClock s l)
  case rlCall => exact .finishOrHold fun _ _ hu => limiterCall_keepsClock hu
  case mtrObs n => exact .finish (observe_keepsClock s n)
  case frameData blk => exact .finish (frameData_keepsClock s blk)
  case frameCtx tod => exact .finish (frameCtx_keepsClock s tod)
  case qTryPush item => exact .ite (.finish (tryPush_keepsClock s item)) (.refused s _)
  case qPop | snkPop => exact .finishOrHold fun _ _ hu => pop_keepsClock hu
  case start tod => exact execStart_keepsClock tod s
  case stop | cfgWrite => exact .ite (.finish ⟨rfl, rfl⟩) (.finish ⟨rfl, rfl⟩)
  case pLoad => exact execPLoad_keepsClock s
  case pEmit => exact execPEmit_keepsClock s
  case oFetch => exact execOFetch_keepsClock s
  case oSend => exact execOSend_keepsClock s
  case cEmit => exact .ite (.finishOrHold fun _ _ hu => limiterCall_keepsClock hu) (.hold s)
  case cExit | pStop | oStop | cStop => exact .ite (.finish ⟨rfl, rfl⟩) (.hold s)
  case srcPush =>
    exact .ite (.ite (.finishOrHold fun _ _ hu => sourcePush_keepsClock hu) (.hold s)) (.refused s _)
  case stageFault g => exact .ite (.finish (killStage_keepsClock s g)) (.hold s)
  case hostDec b => exact execHostDec_keepsClock b s
  all_goals exact .finish ⟨rfl, rfl⟩

/-- TICK adds its operand to `NOW` and returns nothing (R210). -/
theorem exec_tick (n : Nat) (s : State) :
    exec (.tick n) s = .next { s with now := s.now + n, out := .done } := rfl

/-- Settles O50: TICK by its meaning, every other operation because it keeps the clock. -/
theorem onlyTickMovesTime : Obligations.OnlyTickMovesTime := by
  refine ⟨exec_tick, fun i s t ht => ?_⟩
  by_cases hi : ∃ n, i = .tick n
  · obtain ⟨n, rfl⟩ := hi
    rw [exec_tick] at ht
    obtain rfl := Host.Outcome.next.inj ht
    exact ⟨rfl, Nat.le_add_right s.now n, fun h => absurd rfl (h n)⟩
  · have hn : ∀ n, i ≠ .tick n := fun n h => hi ⟨n, h⟩
    have hk := exec_keepsClock hn s t ht
    exact ⟨hk.params, hk.now.ge, fun _ => hk.now⟩

end Sys2Proof.Machine
end

section
/-! PROOF. The effects of an operation. RESET and START apart, every operation is put together out of a few
elementary updates of the state (`Effect`), each with what holds where it is made and, for a register of
R250's table, with the operations that own it. `exec_effects` shows this once for every operation; a statement
about what operations keep is then a statement about the elementary updates. -/

namespace Sys2Proof.Machine

/-! ### The elementary updates -/

/-- The operations that advance `CTX_SEQ`: those of stage C that build a context packet (R250). -/
abbrev BuildsContext (i : Instr) : Prop :=
  (∃ tod, i = .cEmit tod ∨ i = .frameCtx tod) ∨
    ∃ tod, i = .rlCall .ctx (.frameCtx tod) ∨ i = .rlCall .ctx (.buildAndPush tod)

/-- The operations of stage O that mark its limiter (R250). -/
abbrev MarksOut (i : Instr) : Prop := i = .oSend ∨ i = .rlMark .out ∨ ∃ op, i = .rlCall .out op

/-- The operations of stage C that mark its limiter (R250). -/
abbrev MarksCtx (i : Instr) : Prop := (∃ tod, i = .cEmit tod) ∨ i = .rlMark .ctx ∨ ∃ op, i = .rlCall .ctx op

/-- The operations of stage O that observe a packet (R250). -/
abbrev Observes (i : Instr) : Prop :=
  i = .oSend ∨ (∃ n, i = .mtrObs n) ∨ ∃ n, i = .rlCall .out (.mtrObs n)

/-- One elementary update that operation `i`, neither RESET nor START, may make. -/
inductive Effect (i : Instr) (s : State) : State → Prop where
  -- the model's own fields
  | answer (r : Result) : Effect i s { s with out := r }
  | draw : Effect i s { s with drawn := s.drawn + 1 }
  -- queues and drops
  | pushDq (b : Bytes) (hroom : s.dq.length < s.cfg.dqCap.toNat) : Effect i s { s with dq := s.dq ++ [b] }
  | pushOq (b : Bytes) (hroom : s.oq.length < s.params.oqCap) : Effect i s { s with oq := s.oq ++ [b] }
  | pushIq (c : Chunk) (hroom : s.iq.length < s.params.iqCap) (hfit : c.length ≤ s.params.maxChunk) :
      Effect i s { s with iq := s.iq ++ [c] }
  | dropDq : Effect i s { s with dropDq := true, dropDqCnt := satInc s.dropDqCnt }
  | dropOq : Effect i s { s with dropOq := true, dropOqCnt := satInc s.dropOqCnt }
  | popDq {b : Bytes} {rest : List Bytes} (hq : s.dq = b :: rest) : Effect i s { s with dq := rest }
  | popOq {b : Bytes} {rest : List Bytes} (hq : s.oq = b :: rest) : Effect i s { s with oq := rest }
  | popIq {c : Chunk} {rest : List Chunk} (hq : s.iq = c :: rest) : Effect i s { s with iq := rest }
  -- stage P's registers
  | append (c : Chunk) (ho : ∃ c, i = .accPush c) (hroom : s.acc.length < s.cfg.blockSize)
      (hfit : c.length ≤ s.params.maxChunk) : Effect i s { s with acc := s.acc ++ c }
  | load {c : Chunk} {rest : List Chunk} (ho : i = .pLoad) (hroom : s.acc.length < s.cfg.blockSize)
      (hq : s.iq = c :: rest) : Effect i s { s with iq := rest, acc := s.acc ++ c }
  | takeBlock (ho : i = .pEmit ∨ i = .accEmit) :
      Effect i s { s with acc := s.acc.drop s.cfg.blockSize }
  | frame (ho : i = .pEmit ∨ ∃ blk, i = .frameData blk) :
      Effect i s { s with seq := s.seq + 1, blkIdx := s.blkIdx + 1 }
  -- stage O's registers
  | hold (pkt : Bytes) (ho : i = .oFetch) (hg : s.oState = .wait) :
      Effect i s { s with oHold := some pkt, oState := .holding }
  | release (ho : i = .oSend) (hg : s.oState = .holding) :
      Effect i s { s with oHold := none, oState := .wait }
  | markOut (ho : MarksOut i) : Effect i s { s with rlOutLast := some s.now }
  | observe (n : Nat) (ho : Observes i) : Effect i s (s.observe n)
  -- stage C's registers
  | countContext (q : BitVec 4) (ho : BuildsContext i) : Effect i s { s with ctxSeq := q }
  | markCtx (ho : MarksCtx i) : Effect i s { s with rlCtxLast := some s.now }
  -- errors
  | encodeFailed (e : ErrCode) (op : BitVec 8) : Effect i s { s with
      encFail := true, errCode := if s.errCode = 0 then e.code else s.errCode
      errOp := if s.errCode = 0 then op else s.errOp }
  | decodeFailed (e : ErrCode) : Effect i s { s with
      decFail := true, decFailCnt := satInc s.decFailCnt
      errCode := if s.errCode = 0 then e.code else s.errCode
      errOp := if s.errCode = 0 then opPktDec else s.errOp }
  -- the ends of the stages
  | killP (ho : i = .stageFault .p) : Effect i s { s with
      pState := .dead, degraded := true
      errCode := if s.errCode = 0 then ErrCode.stageFault.code else s.errCode
      errOp := if s.errCode = 0 then opStageFault else s.errOp }
  | killO (ho : i = .stageFault .o) : Effect i s { s with
      oState := .dead, oHold := none, degraded := true
      errCode := if s.errCode = 0 then ErrCode.stageFault.code else s.errCode
      errOp := if s.errCode = 0 then opStageFault else s.errOp }
  | killC (ho : i = .stageFault .c) : Effect i s { s with
      cState := .dead, degraded := true
      errCode := if s.errCode = 0 then ErrCode.stageFault.code else s.errCode
      errOp := if s.errCode = 0 then opStageFault else s.errOp }
  | stopP (ho : i = .pStop) (hg : s.pState = .run) : Effect i s { s with pState := .off }
  | stopO (ho : i = .oStop) (hg : s.oState = .wait ∨ s.oState = .holding) :
      Effect i s { s with oHold := none, oState := .off }
  | stopC (ho : i = .cStop) (hg : s.cState = .run) : Effect i s { s with cState := .off }
  | exitC (ho : i = .cExit) (hg : s.cState = .run) : Effect i s { s with cState := .done }
  -- the host and the environment
  | requestStop (ho : i = .stop) : Effect i s { s with stopReq := true }
  | writeCfg (c : Cfg) (ho : ∃ a, i = .cfgWrite a) (hg : s.running = false) : Effect i s { s with cfg := c }
  | tick (n : Nat) : Effect i s { s with now := s.now + n }

/-- Elementary updates of operation `i`, one after the other. -/
abbrev Effects (i : Instr) : State → State → Prop := Relation.ReflTransGen (Effect i)

/-- Every next state that the meaning of `i` answers in `s` is reached by effects of `i`. -/
def AnswersByEffects (i : Instr) (s : State) (a : Answer) : Prop := ∀ t, a = .next t → Effects i s t

section Meanings

variable {i : Instr} {s t u : State}

/-- The shape in which the `_cases` lemmas name the state of a pair. -/
theorem Effects.of_pair_eq {r : Result} {p : State × Result} (h : p = (t, r)) (k : Effects i s p.1) :
    Effects i s t := by
  subst h
  exact k

/-! ### How a meaning ends -/

theorem AnswersByEffects.finish {r : Result} (h : Effects i s u) : AnswersByEffects i s (finish u r) := by
  intro t ht
  obtain rfl := (finish_eq_next u t r).mp ht
  exact h.tail (.answer r)

theorem AnswersByEffects.hold : AnswersByEffects i s (hold s) := .finish .refl

theorem AnswersByEffects.refused {why : Refusal} : AnswersByEffects i s (.refused why) :=
  fun _ ht => nomatch ht

theorem AnswersByEffects.ite {c : Prop} [Decidable c] {a b : Answer} (ha : c → AnswersByEffects i s a)
    (hb : AnswersByEffects i s b) : AnswersByEffects i s (if c then a else b) := by
  split
  · next hc => exact ha hc
  · exact hb

theorem AnswersByEffects.finishOrHold {o : Option (State × Result)}
    (h : ∀ u r, o = some (u, r) → Effects i s u) : AnswersByEffects i s (finishOrHold s o) := by
  cases o with
  | none => exact .hold
  | some a => exact .finish (h a.1 a.2 rfl)

/-! ### The shared operations -/

/-- `recordError` field by field: the first error is written, a later one leaves `ERR` (R31, R243). -/
theorem recordError_eq (s : State) (e : ErrCode) (op : BitVec 8) : s.recordError e op = { s with
    errCode := if s.errCode = 0 then e.code else s.errCode
    errOp := if s.errCode = 0 then op else s.errOp } := by
  obtain ⟨h0, h⟩ | ⟨h0, h⟩ := recordError_cases s e op
  · simp only [h, if_pos h0]
  · simp only [h, if_neg h0]

theorem encodeFailed_eq (s : State) (e : ErrCode) (op : BitVec 8) : s.encodeFailed e op = { s with
    encFail := true, errCode := if s.errCode = 0 then e.code else s.errCode
    errOp := if s.errCode = 0 then op else s.errOp } :=
  recordError_eq _ e op

theorem encodeFailed_effects (s : State) (e : ErrCode) (op : BitVec 8) : Effects i s (s.encodeFailed e op) := by
  rw [encodeFailed_eq]
  exact .single (.encodeFailed e op)

theorem decodeFailed_effects (s : State) (e : ErrCode) : Effects i s (s.decodeFailed e) := by
  rw [State.decodeFailed, recordError_eq]
  exact .single (.decodeFailed e)

theorem killStage_effects (s : State) (g : Stage) : Effects (.stageFault g) s (s.killStage g) := by
  unfold State.killStage
  rw [recordError_eq]
  cases g with
  | p => exact .single (.killP rfl)
  | o => exact .single (.killO rfl)
  | c => exact .single (.killC rfl)

theorem tryPush_effects {item : QueueItem} (hfit : s.itemFits item = true) :
    Effects i s (s.tryPush item).1 := by
  obtain ⟨b, -, hl, h⟩ | ⟨b, -, -, h⟩ | ⟨b, -, hl, h⟩ | ⟨b, -, -, h⟩ | ⟨c, hc, hl, h⟩ | ⟨c, -, -, h⟩ :=
    tryPush_cases s item <;> rw [h]
  · exact .single (.pushDq b hl)
  · exact .single (.dropDq)
  · exact .single (.pushOq b hl)
  · exact .single (.dropOq)
  · subst hc
    exact .single (.pushIq c hl (by simpa [State.itemFits, State.chunkFits] using hfit))

theorem pop_effects {q : QueueId} {r : Result} (h : s.pop q = some (t, r)) : Effects i s t := by
  obtain ⟨b, rest, -, hq, rfl, -⟩ | ⟨b, rest, -, hq, rfl, -⟩ | ⟨c, rest, -, hq, rfl, -⟩ := pop_cases h
  · exact .single (.popDq hq)
  · exact .single (.popOq hq)
  · exact .single (.popIq hq)

theorem sourcePush_effects {c : Chunk} {r : Result} (hfit : s.chunkFits c = true)
    (h : s.sourcePush c = some (t, r)) : Effects i s t := by
  obtain ⟨hl, rfl, -⟩ | ⟨-, -, rfl, -⟩ := sourcePush_cases h
  · exact .single (.pushIq c hl (by simpa [State.chunkFits] using hfit))
  · exact .refl

theorem frameAndPush_effects (ho : i = .pEmit) (s : State) (blk : Chunk) :
    Effects i s (s.frameAndPush blk).1 := by
  refine .head (.frame (.inl ho)) ?_
  obtain ⟨e, -, h⟩ | ⟨b, -, h⟩ := frameAndPush_cases s blk <;> rw [h]
  · exact encodeFailed_effects _ e opFrameData
  · exact tryPush_effects rfl

theorem frameCtx_effects (ho : BuildsContext i) (s : State) (tod : BitVec 96) :
    Effects i s (s.frameCtx tod).1 := by
  obtain ⟨q, hq⟩ := frameCtx_eq s tod
  rw [hq]
  exact .head (.draw) (.single (.countContext q ho))

theorem buildAndPush_effects (ho : BuildsContext i) (s : State) (tod : BitVec 96) :
    Effects i s (s.buildAndPush tod).1 := by
  refine (frameCtx_effects ho s tod).trans ?_
  obtain ⟨e, -, h⟩ | ⟨b, -, h⟩ := buildAndPush_cases s tod <;> rw [h]
  · exact encodeFailed_effects _ e opFrameCtx
  · exact tryPush_effects rfl

theorem runWrapped_effects {l : Limiter} {op : WrappedOp l} {r : Result}
    (h : s.runWrapped op = some (t, r)) : Effects (.rlCall l op) s t := by
  cases l with
  | out =>
    obtain ⟨pkt, -, ht⟩ | ⟨-, ht⟩ | ⟨n, rfl, rfl, -⟩ | ⟨pkt, -, -, ht⟩ := runWrapped_out_cases h
    · exact .of_pair_eq ht.symm (tryPush_effects rfl)
    · exact pop_effects ht
    · exact .single (.observe n (.inr (.inr ⟨n, rfl⟩)))
    · exact .of_pair_eq ht.symm (tryPush_effects rfl)
  | ctx =>
    obtain ⟨pkt, -, ht⟩ | ⟨-, rfl, -⟩ | ⟨tod, rfl, rfl, -⟩ | ⟨p, -, rfl, -⟩ | ⟨tod, rfl, ht⟩ :=
      runWrapped_ctx_cases h
    · exact .of_pair_eq ht.symm (tryPush_effects rfl)
    · exact .single (.draw)
    · exact frameCtx_effects (.inr ⟨tod, .inl rfl⟩) s tod
    · exact .refl
    · exact .of_pair_eq ht.symm (buildAndPush_effects (.inr ⟨tod, .inr rfl⟩) s tod)

/-! ### The meanings that branch -/

theorem execRlMark_effects (l : Limiter) (s : State) : Effects (.rlMark l) s (s.mark l) := by
  cases l with
  | out => exact .single (.markOut (.inr (.inl rfl)))
  | ctx => exact .single (.markCtx (.inr (.inl rfl)))

theorem limiterCall_effects {l : Limiter} {op : WrappedOp l} {r : Result}
    (h : s.limiterCall l op = some (t, r)) : Effects (.rlCall l op) s t := by
  obtain ⟨-, u, hu, rfl⟩ := limiterCall_cases h
  refine (runWrapped_effects hu).tail ?_
  cases l with
  | out => exact .markOut (.inr (.inr ⟨op, rfl⟩))
  | ctx => exact .markCtx (.inr (.inr ⟨op, rfl⟩))

theorem execAccPush_effects (c : Chunk) (s : State) : AnswersByEffects (.accPush c) s (execAccPush c s) := by
  intro t ht
  obtain ⟨hfit, ⟨hroom, rfl, -⟩ | ⟨-, rfl⟩⟩ := execAccPush_cases ht
  · exact .head (.append c ⟨c, rfl⟩ hroom hfit) (.single (.answer _))
  · exact .single (.answer _)

theorem execAccEmit_effects (s : State) : AnswersByEffects .accEmit s (execAccEmit s) := by
  refine .finishOrHold fun u r hu => ?_
  obtain ⟨⟨v, blk⟩, hv, he⟩ := Option.map_eq_some_iff.mp hu
  obtain ⟨-, rfl, -⟩ := accTake_cases hv
  obtain ⟨rfl, -⟩ := Prod.mk.inj he
  exact .single (.takeBlock (.inr rfl))

theorem execHostDec_effects (b : Bytes) (s : State) : AnswersByEffects i s (execHostDec b s) := by
  unfold execHostDec
  split
  · next e _ => exact .finish (decodeFailed_effects s e)
  · exact .finish .refl

theorem execPLoad_effects (s : State) : AnswersByEffects .pLoad s (execPLoad s) := by
  intro t ht
  obtain rfl | ⟨c, rest, -, -, hroom, hq, rfl⟩ := execPLoad_cases ht
  · exact .single (.answer _)
  · exact .head (.load rfl hroom hq) (.single (.answer _))

theorem execPEmit_effects (s : State) : AnswersByEffects .pEmit s (execPEmit s) := by
  intro t ht
  obtain rfl | ⟨u, r, -, -, -, hu, rfl⟩ := execPEmit_cases ht
  · exact .single (.answer _)
  · have hf : Effects .pEmit _ u := .of_pair_eq hu (frameAndPush_effects rfl _ _)
    exact .head (.takeBlock (.inl rfl)) (hf.tail (.answer r))

theorem execOFetch_effects (s : State) : AnswersByEffects .oFetch s (execOFetch s) := by
  intro t ht
  obtain rfl | ⟨pkt, rest, hg, -, hq, rfl⟩ := execOFetch_cases ht
  · exact .single (.answer _)
  · exact .head (.popDq hq) (.head (.hold pkt rfl hg) (.single (.answer _)))

/-- The held packet may as well be let go first: the push, the mark and the meter do not read `O_HOLD`. -/
theorem execOSend_effects (s : State) : AnswersByEffects .oSend s (execOSend s) := by
  intro t ht
  obtain rfl | ⟨pkt, u, r, hg, -, -, -, hu, rfl⟩ := execOSend_cases ht
  · exact .single (.answer _)
  refine .head (.release rfl hg) ?_
  by_cases hroom : s.oq.length < s.params.oqCap
  · simp only [State.tryPush, if_pos hroom, Prod.mk.injEq] at hu
    obtain ⟨rfl, rfl⟩ := hu
    exact .head (.pushOq pkt hroom) (.head (.markOut (.inl rfl)) (.head (.observe pkt.length (.inl rfl))
      (.single (.answer _))))
  · simp only [State.tryPush, if_neg hroom, Prod.mk.injEq] at hu
    obtain ⟨rfl, rfl⟩ := hu
    exact .head (.dropOq) (.head (.markOut (.inl rfl)) (.single (.answer _)))

theorem execCEmit_effects (tod : BitVec 96) (s : State) :
    AnswersByEffects (.cEmit tod) s (execCEmit tod s) := by
  intro t ht
  obtain rfl | ⟨u, r, -, -, -, -, hu, rfl⟩ := execCEmit_cases ht
  · exact .single (.answer _)
  · have hb : Effects (.cEmit tod) s u := .of_pair_eq hu (buildAndPush_effects (.inl ⟨tod, .inl rfl⟩) s tod)
    exact (hb.tail (.markCtx (.inl ⟨tod, rfl⟩))).tail (.answer r)

theorem execCExit_effects (s : State) : AnswersByEffects .cExit s (execCExit s) := by
  intro t ht
  obtain rfl | ⟨hg, -, -, rfl⟩ := execCExit_cases ht
  · exact .single (.answer _)
  · exact .head (.exitC rfl hg) (.single (.answer _))

theorem execPStop_effects (s : State) : AnswersByEffects .pStop s (execPStop s) :=
  .ite (fun hg => .finish (.single (.stopP rfl (by simp_all [State.stageRunning])))) .hold

theorem execOStop_effects (s : State) : AnswersByEffects .oStop s (execOStop s) :=
  .ite (fun hg => .finish (.single (.stopO rfl (by simp_all [State.stageRunning])))) .hold

theorem execCStop_effects (s : State) : AnswersByEffects .cStop s (execCStop s) :=
  .ite (fun hg => .finish (.single (.stopC rfl (by simp_all [State.stageRunning])))) .hold

theorem execCfgWrite_effects (a : CfgAssign) (s : State) : AnswersByEffects (.cfgWrite a) s (execCfgWrite a s) := by
  unfold execCfgWrite
  split
  · exact .finish .refl
  · next hg => exact .finish (.single (.writeCfg _ ⟨a, rfl⟩ (Bool.eq_false_of_not_eq_true hg)))

/-! ### Every operation -/

/-- Every operation but RESET and START is put together out of its effects. The last group is that of the pure
operations, the wire formats and the reads of registers. -/
theorem exec_effects (hr : i ≠ .reset) (hs : ∀ tod, i ≠ .start tod) (h : exec i s = .next t) :
    Effects i s t := by
  suffices AnswersByEffects i s (exec i s) from this t h
  cases i
  case reset => exact absurd rfl hr
  case start tod => exact absurd rfl (hs tod)
  case bfEnc | pktSize => exact .ite (fun _ => .finish .refl) (.finish (.single (.draw)))
  case accPush c => exact execAccPush_effects c s
  case accEmit => exact execAccEmit_effects s
  case rlMark l => exact .finish (execRlMark_effects l s)
  case rlCall => exact .finishOrHold fun _ _ hu => limiterCall_effects hu
  case mtrObs n => exact .finish (.single (.observe n (.inr (.inl ⟨n, rfl⟩))))
  case frameData blk => exact .finish (.single (.frame (.inr ⟨blk, rfl⟩)))
  case ctxPayload | fieldCtxPayload => exact .finish (.single (.draw))
  case frameCtx tod => exact .finish (frameCtx_effects (.inl ⟨tod, .inr rfl⟩) s tod)
  case qTryPush => exact .ite (fun hfit => .finish (tryPush_effects hfit)) .refused
  case qPop | snkPop => exact .finishOrHold fun _ _ hu => pop_effects hu
  case stop => exact .ite (fun _ => .finish (.single (.requestStop rfl))) (.finish .refl)
  case pLoad => exact execPLoad_effects s
  case pEmit => exact execPEmit_effects s
  case oFetch => exact execOFetch_effects s
  case oSend => exact execOSend_effects s
  case cEmit tod => exact execCEmit_effects tod s
  case cExit => exact execCExit_effects s
  case pStop => exact execPStop_effects s
  case oStop => exact execOStop_effects s
  case cStop => exact execCStop_effects s
  case tick n => exact .finish (.single (.tick n))
  case srcPush =>
    exact .ite (fun hfit => .ite (fun _ => .finishOrHold fun _ _ hu => sourcePush_effects hfit hu) .hold) .refused
  case stageFault g => exact .ite (fun _ => .finish (killStage_effects s g)) .hold
  case hostDec b => exact execHostDec_effects b s
  case cfgWrite a => exact execCfgWrite_effects a s
  all_goals exact .finish .refl

/-- What every effect of an operation keeps, the operation keeps. -/
theorem Effects.keeps {I : State → Prop} (hI : ∀ u v, Effect i u v → I u → I v) (h : Effects i s t) (hs : I s) :
    I t := by
  induction h with
  | refl => exact hs
  | tail _ he ih => exact hI _ _ he ih

/-- A register that an operation changes is changed by one of its effects. -/
theorem Effects.changed {α : Type} (f : State → α) (h : Effects i s t) (hne : f t ≠ f s) :
    ∃ u v, Effect i u v ∧ f v ≠ f u := by
  by_contra hno
  push Not at hno
  exact hne (h.keeps (I := fun u => f u = f s) (fun u v he hu => (hno u v he).trans hu) rfl)

end Meanings

end Sys2Proof.Machine
end

section
/-! PROOF. O59, O58, O56 and O57: what the operations keep, read off their effects. -/

namespace Sys2Proof.Machine

section Owners

variable {i : Instr} {s t : State}

/-! ### O59: the owner of each register -/

/-- If only effects of a certain owner change a register, an operation that changes it is that owner's. -/
theorem Effects.owner {α : Type} {P : Prop} (f : State → α)
    (hf : ∀ {u v : State}, Effect i u v → f v ≠ f u → P) (h : Effects i s t) (hne : f t ≠ f s) : P := by
  obtain ⟨u, v, he, hv⟩ := h.changed f hne
  exact hf he hv

theorem Effect.t0_eq (he : Effect i s t) : t.t0 = s.t0 := by cases he <;> rfl

theorem Effect.running_eq (he : Effect i s t) : t.running = s.running := by cases he <;> rfl

theorem Effect.cfg_owner (he : Effect i s t) (hne : t.cfg ≠ s.cfg) : ∃ a, i = .cfgWrite a := by
  cases he with
  | writeCfg _ ho => exact ho
  | _ => exact absurd rfl hne

theorem Effect.stopReq_owner (he : Effect i s t) (hne : t.stopReq ≠ s.stopReq) : i = .stop := by
  cases he with
  | requestStop ho => exact ho
  | _ => exact absurd rfl hne

theorem Effect.acc_owner (he : Effect i s t) (hne : t.acc ≠ s.acc) :
    i = .pLoad ∨ i = .pEmit ∨ i = .accEmit ∨ ∃ c, i = .accPush c := by
  cases he with
  | load ho => exact .inl ho
  | takeBlock ho => exact .inr (ho.imp_right .inl)
  | append _ ho => exact .inr (.inr (.inr ho))
  | _ => exact absurd rfl hne

theorem Effect.position_owner (he : Effect i s t) (hne : (t.blkIdx, t.seq) ≠ (s.blkIdx, s.seq)) :
    i = .pEmit ∨ ∃ blk, i = .frameData blk := by
  cases he with
  | frame ho => exact ho
  | _ => exact absurd rfl hne

theorem Effect.pState_owner (he : Effect i s t) (hne : t.pState ≠ s.pState) : i = .pStop ∨ i = .stageFault .p := by
  cases he with
  | stopP ho => exact .inl ho
  | killP ho => exact .inr ho
  | _ => exact absurd rfl hne

theorem Effect.stageO_owner (he : Effect i s t) (hne : (t.oHold, t.oState) ≠ (s.oHold, s.oState)) :
    i = .oFetch ∨ i = .oSend ∨ i = .oStop ∨ i = .stageFault .o := by
  cases he with
  | hold _ ho => exact .inl ho
  | release ho => exact .inr (.inl ho)
  | stopO ho => exact .inr (.inr (.inl ho))
  | killO ho => exact .inr (.inr (.inr ho))
  | _ => exact absurd rfl hne

theorem Effect.rlOutLast_owner (he : Effect i s t) (hne : t.rlOutLast ≠ s.rlOutLast) : MarksOut i := by
  cases he with
  | markOut ho => exact ho
  | _ => exact absurd rfl hne

theorem Effect.mtr_owner (he : Effect i s t) (hne : t.mtr ≠ s.mtr) : Observes i := by
  cases he with
  | observe _ ho => exact ho
  | _ => exact absurd rfl hne

theorem Effect.ctxSeq_owner (he : Effect i s t) (hne : t.ctxSeq ≠ s.ctxSeq) : BuildsContext i := by
  cases he with
  | countContext _ ho => exact ho
  | _ => exact absurd rfl hne

theorem Effect.rlCtxLast_owner (he : Effect i s t) (hne : t.rlCtxLast ≠ s.rlCtxLast) : MarksCtx i := by
  cases he with
  | markCtx ho => exact ho
  | _ => exact absurd rfl hne

theorem Effect.cState_owner (he : Effect i s t) (hne : t.cState ≠ s.cState) :
    i = .cExit ∨ i = .cStop ∨ i = .stageFault .c := by
  cases he with
  | exitC ho => exact .inl ho
  | stopC ho => exact .inr (.inl ho)
  | killC ho => exact .inr (.inr ho)
  | _ => exact absurd rfl hne

theorem Effect.degraded_owner (he : Effect i s t) (hne : t.degraded ≠ s.degraded) : ∃ g, i = .stageFault g := by
  cases he with
  | killP ho => exact ⟨.p, ho⟩
  | killO ho => exact ⟨.o, ho⟩
  | killC ho => exact ⟨.c, ho⟩
  | _ => exact absurd rfl hne

/-- Settles O59: an operation changes a register only by an effect that its owner makes. -/
theorem registersHaveOwners : Obligations.RegistersHaveOwners := by
  intro i s t h hr hs
  have he : Effects i s t := exec_effects hr hs h
  exact ⟨he.keeps (I := fun u => u.t0 = s.t0) (fun _ _ hu => hu.t0_eq.trans) rfl,
    he.keeps (I := fun u => u.running = s.running) (fun _ _ hu => hu.running_eq.trans) rfl,
    he.owner State.cfg Effect.cfg_owner,
    he.owner State.stopReq Effect.stopReq_owner,
    he.owner State.acc Effect.acc_owner,
    fun hne => he.owner (fun u => (u.blkIdx, u.seq)) Effect.position_owner (mt Prod.mk.inj (not_and_or.mpr hne)),
    he.owner State.pState Effect.pState_owner,
    fun hne => he.owner (fun u => (u.oHold, u.oState)) Effect.stageO_owner (mt Prod.mk.inj (not_and_or.mpr hne)),
    he.owner State.rlOutLast Effect.rlOutLast_owner,
    he.owner State.mtr Effect.mtr_owner,
    he.owner State.ctxSeq Effect.ctxSeq_owner,
    he.owner State.rlCtxLast Effect.rlCtxLast_owner,
    he.owner State.cState Effect.cState_owner,
    he.owner State.degraded Effect.degraded_owner⟩

end Owners

/-! ### O58: the error record, the sticky flags and the counters -/

/-- From `s` to `t` the first error stays, and no sticky flag and no counter falls (R30 to R32, R243). -/
structure KeepsRecord (s t : State) : Prop where
  err : s.errCode ≠ 0 → t.errCode = s.errCode ∧ t.errOp = s.errOp
  dropDq : s.dropDq = true → t.dropDq = true
  dropOq : s.dropOq = true → t.dropOq = true
  decFail : s.decFail = true → t.decFail = true
  encFail : s.encFail = true → t.encFail = true
  stopReq : s.stopReq = true → t.stopReq = true
  cfgErr : t.cfgErr = s.cfgErr
  dropDqCnt : s.dropDqCnt.toNat ≤ t.dropDqCnt.toNat
  dropOqCnt : s.dropOqCnt.toNat ≤ t.dropOqCnt.toNat
  decFailCnt : s.decFailCnt.toNat ≤ t.decFailCnt.toNat

theorem KeepsRecord.refl (s : State) : KeepsRecord s s :=
  ⟨fun _ => ⟨rfl, rfl⟩, id, id, id, id, id, rfl, le_rfl, le_rfl, le_rfl⟩

/-- Taking a further error leaves the recorded one. -/
theorem KeepsRecord.recorded {s t : State} (h : KeepsRecord s t) (c op : BitVec 8) (hs : s.errCode ≠ 0) :
    (if t.errCode = 0 then c else t.errCode) = s.errCode ∧ (if t.errCode = 0 then op else t.errOp) = s.errOp := by
  obtain ⟨hc, ho⟩ := h.err hs
  rw [if_neg (hc ▸ hs), if_neg (hc ▸ hs)]
  exact ⟨hc, ho⟩

theorem le_satInc (c : BitVec 32) : c.toNat ≤ (satInc c).toNat := by
  rw [satInc_toNat]
  have := c.isLt
  omega

theorem Effect.keepsRecord {i : Instr} {s t u : State} (he : Effect i t u) (h : KeepsRecord s t) :
    KeepsRecord s u := by
  cases he with
  | dropDq => exact { h with dropDq := fun _ => rfl, dropDqCnt := h.dropDqCnt.trans (le_satInc _) }
  | dropOq => exact { h with dropOq := fun _ => rfl, dropOqCnt := h.dropOqCnt.trans (le_satInc _) }
  | encodeFailed => exact { h with err := h.recorded _ _, encFail := fun _ => rfl }
  | decodeFailed =>
    exact { h with
      err := h.recorded _ _, decFail := fun _ => rfl, decFailCnt := h.decFailCnt.trans (le_satInc _) }
  | killP | killO | killC => exact { h with err := h.recorded _ _ }
  | requestStop => exact { h with stopReq := fun _ => rfl }
  | _ => exact { h with }

/-- Settles O58: every effect keeps the record. -/
theorem firstErrorAndFlagsStick : Obligations.FirstErrorAndFlagsStick := by
  intro i s t h hr hs
  have hk : KeepsRecord s t := (exec_effects hr hs h).keeps (fun _ _ => Effect.keepsRecord) (.refl s)
  exact ⟨hk.err, hk.dropDq, hk.dropOq, hk.decFail, hk.encFail, hk.stopReq, hk.cfgErr, hk.dropDqCnt, hk.dropOqCnt,
    hk.decFailCnt⟩

/-! ### START -/

/-- START is ignored while running or degraded, and otherwise fails with a check or starts a run (R198). -/
theorem execStart_cases {tod : BitVec 96} {s t : State} (h : execStart tod s = .next t) :
    ((s.running = true ∨ s.degraded = true) ∧ t = { s with out := .done }) ∨
      (s.running = false ∧ s.degraded = false ∧
        ((∃ e, s.cfg.startError = some e ∧ t = { s.startFailed e with out := .error e }) ∨
          (s.cfg.startError = none ∧ t = { s.startRun tod with out := .done }))) := by
  unfold execStart at h
  split at h
  · next hg => exact .inl ⟨by simpa using hg, by simpa using h⟩
  · next hg =>
    obtain ⟨hrun, hdeg⟩ : s.running = false ∧ s.degraded = false := by simpa using hg
    refine .inr ⟨hrun, hdeg, ?_⟩
    split at h
    · next e he => exact .inl ⟨e, he, by simpa using h⟩
    · next he => exact .inr ⟨he, by simpa using h⟩

/-! ### O56: dead stages -/

/-- What is dead in `s` is dead in `t` (R29, R241). -/
structure StaysDead (s t : State) : Prop where
  p : s.pState = .dead → t.pState = .dead
  o : s.oState = .dead → t.oState = .dead
  c : s.cState = .dead → t.cState = .dead
  degraded : s.degraded = true → t.degraded = true

theorem StaysDead.refl (s : State) : StaysDead s s := ⟨id, id, id, id⟩

/-- A stage moves only out of a state that is not dead, and no effect clears `DEGRADED`. -/
theorem Effect.staysDead {i : Instr} {s t u : State} (he : Effect i t u) (h : StaysDead s t) : StaysDead s u := by
  cases he with
  | hold _ _ hg | release _ hg => exact { h with o := fun hs => by simp [h.o hs] at hg }
  | stopP _ hg => exact { h with p := fun hs => by simp [h.p hs] at hg }
  | stopO _ hg => exact { h with o := fun hs => by simp [h.o hs] at hg }
  | stopC _ hg | exitC _ hg => exact { h with c := fun hs => by simp [h.c hs] at hg }
  | killP => exact { h with p := fun _ => rfl, degraded := fun _ => rfl }
  | killO => exact { h with o := fun _ => rfl, degraded := fun _ => rfl }
  | killC => exact { h with c := fun _ => rfl, degraded := fun _ => rfl }
  | _ => exact { h with }

/-- START is ignored while `DEGRADED` is set, which it is while a stage is dead (R198). -/
theorem execStart_staysDead {tod : BitVec 96} {s t : State} (hd : DegradedIffDead s)
    (h : execStart tod s = .next t) : StaysDead s t := by
  obtain ⟨-, rfl⟩ | ⟨-, hdeg, ⟨e, -, rfl⟩ | ⟨-, rfl⟩⟩ := execStart_cases h
  · exact { StaysDead.refl s with }
  · exact { StaysDead.refl s with }
  · have hdead : ¬(s.pState = .dead ∨ s.oState = .dead ∨ s.cState = .dead) := by simp [← hd, hdeg]
    exact ⟨fun hp => absurd (.inl hp) hdead, fun ho => absurd (.inr (.inl ho)) hdead,
      fun hc => absurd (.inr (.inr hc)) hdead, fun hs => absurd hs (by simp [hdeg])⟩

/-- Settles O56: START does not start a degraded VRTB, and no effect of another operation revives. -/
theorem onlyResetRevives : Obligations.OnlyResetRevives := by
  intro i s t hd h hr
  have hk : StaysDead s t := by
    by_cases hs : ∃ tod, i = .start tod
    · obtain ⟨tod, rfl⟩ := hs
      exact execStart_staysDead hd h
    · exact (exec_effects hr (fun tod hi => hs ⟨tod, hi⟩) h).keeps (fun _ _ => Effect.staysDead) (.refl s)
  exact ⟨hk.p, hk.o, hk.c, hk.degraded⟩

/-! ### O57: the configuration in a run -/

/-- The fetch writes the model's own fields alone (log 1, log 9). -/
theorem fetch_eq (s : State) : ∃ ts n, s.fetch.2 = { s with agenda := ts, drawn := n } := by
  obtain ⟨t, rest, -, h⟩ | ⟨-, h⟩ := fetch_cases s <;> rw [h]
  · exact ⟨rest, s.drawn, rfl⟩
  · exact ⟨s.agenda, s.drawn + 1, rfl⟩

/-- A step performs the operation decoded, on a state with only the model's own fields changed, and then ends
a completed stop. -/
theorem step_cases {s t : State} (h : step s = .next t) :
    ∃ ts n i u, decode s.fetch.1 = .ok i ∧ exec i { s with agenda := ts, drawn := n } = .next u ∧
      t = u.completeStop := by
  obtain ⟨i, u, hd, hu, rfl⟩ := perform_cases (step_eq s ▸ h)
  obtain ⟨ts, n, hf⟩ := fetch_eq s
  exact ⟨ts, n, i, u, hd, hf ▸ hu, rfl⟩

/-- While `RUNNING`, CFG.WRITE and START are ignored, and no other operation but RESET writes a configuration
register (R20, R51). -/
theorem exec_cfg_of_running {i : Instr} {s t : State} (hrun : s.running = true) (hr : i ≠ .reset)
    (h : exec i s = .next t) : t.cfg = s.cfg := by
  by_cases hs : ∃ tod, i = .start tod
  · obtain ⟨tod, rfl⟩ := hs
    obtain ⟨-, rfl⟩ | ⟨hno, -⟩ := execStart_cases h
    · rfl
    · simp [hrun] at hno
  · by_contra hne
    have he : Effects i s t := exec_effects hr (fun tod hi => hs ⟨tod, hi⟩) h
    obtain ⟨a, rfl⟩ := he.owner State.cfg Effect.cfg_owner hne
    simp only [exec, execCfgWrite, if_pos hrun, finish_eq_next] at h
    exact hne (by rw [h])

/-- Settles O57: the fetch and the end of a stop do not write the configuration either. -/
theorem configIsFrozenInARun : Obligations.ConfigIsFrozenInARun := by
  intro s t hrun h hdec
  obtain ⟨ts, n, i, u, hd, hu, rfl⟩ := step_cases h
  have hr : i ≠ .reset := fun hi => hdec (hi ▸ hd)
  rw [State.completeStop_cfg]
  exact exec_cfg_of_running (s := { s with agenda := ts, drawn := n }) hrun hr hu

end Sys2Proof.Machine
end

section
/-! PROOF. O54 and O55: the state after reset is legal, and every step keeps a legal state legal. In the middle
of a step a requested stop may have every stage out with `RUNNING` not yet fallen, so an operation keeps
`LegalInStep`, a legal state but for `StopIsCompleted`, and the end of the step restores that (R199). -/

namespace Sys2Proof.Machine

/-- A legal state but for the completion of a stop. -/
structure LegalInStep (s : State) : Prop where
  params : ParamsLegal s
  hold : HoldMatchesState s
  queues : QueuesBounded s
  accumulator : AccumulatorBounded s
  chunks : ChunksFit s
  seq : SeqFollowsIndex s
  marks : MarksNotAhead s
  degraded : DegradedIffDead s
  configured : RunIsConfigured s
  stages : StagesRunInARun s
  counters : FlagsMatchCounters s
  err : ErrMatchesFlags s
  window : WindowBelowGranularity s

theorem Legal.inStep {s : State} (h : Legal s) : LegalInStep s := { h with }

/-- The end of a step completes a stop that every stage has observed. -/
theorem LegalInStep.completeStop {s : State} (h : LegalInStep s) : Legal s.completeStop := by
  obtain ⟨-, hout, hs⟩ | ⟨hno, hs⟩ := completeStop_cases s <;> rw [hs]
  · obtain ⟨hiq, hoq, -⟩ := h.queues
    exact { h with
      queues := ⟨hiq, hoq, nofun⟩, accumulator := nofun, configured := nofun
      stages := fun _ => hout, stop := fun _ _ => rfl }
  · exact { h with stop := fun hr ho => absurd ⟨hr, ho⟩ hno }

/-- No stage is in a running state (R199). -/
theorem allStagesOut_iff (s : State) : s.allStagesOut = true ↔
    s.pState ≠ .run ∧ (s.oState ≠ .wait ∧ s.oState ≠ .holding) ∧ s.cState ≠ .run := by
  simp [State.allStagesOut, State.stageRunning, and_assoc]

/-! ### The meter (R166) -/

/-- The observation leaves both of the meter's marks at or before `NOW`. -/
theorem Meter.observe_marks (m : Meter) (hz now n drawn : Nat) (h : m.winStart ≤ now) :
    (m.observe hz now n drawn).last = some now ∧ (m.observe hz now n drawn).winStart ≤ now := by
  cases hl : m.last with
  | none => simp [Meter.observe, hl]
  | some t => simpa [Meter.observe, hl] using h

theorem Meter.report_marks (m : Meter) (hz mtrN now drawn : Nat) (h : m.winStart ≤ now) :
    (m.report hz mtrN now drawn).last = m.last ∧ (m.report hz mtrN now drawn).winStart ≤ now := by
  unfold Meter.report
  split
  · exact ⟨rfl, le_rfl⟩
  · exact ⟨rfl, h⟩

/-- However full the window was, the report leaves it below the granularity. -/
theorem Meter.report_cnt_lt (m : Meter) (hz mtrN now drawn : Nat) (h : 1 ≤ mtrN) :
    (m.report hz mtrN now drawn).cnt.toNat < mtrN := by
  unfold Meter.report
  split
  · exact h
  · next hc => exact not_le.mp hc

theorem observe_mtr_marks (s : State) (n : Nat) (h : s.mtr.winStart ≤ s.now) :
    (s.observe n).mtr.last = some s.now ∧ (s.observe n).mtr.winStart ≤ s.now := by
  obtain ⟨hlast, hwin⟩ := s.mtr.observe_marks s.params.tickHz s.now n s.drawn h
  obtain ⟨hlast', hwin'⟩ := Meter.report_marks _ s.params.tickHz s.params.mtrN s.now s.drawn hwin
  exact ⟨hlast'.trans hlast, hwin'⟩

/-! ### Each invariant under each effect -/

theorem notAhead_mono {m n : Nat} {o : Option Nat} (hmn : m ≤ n) (h : notAhead m o = true) :
    notAhead n o = true := by
  cases o with
  | none => rfl
  | some t => exact decide_eq_true ((of_decide_eq_true h).trans hmn)

theorem notAhead_now (n : Nat) : notAhead n (some n) = true := decide_eq_true le_rfl

/-- Taking an error leaves a code in `ERR` (R31). -/
theorem recorded_ne_zero (c : BitVec 8) (e : ErrCode) : (if c = 0 then e.code else c) ≠ 0 := by
  split
  · exact e.code_ne_zero
  · assumption

/-- A code with a flag of its class is what `ERR` may hold (R31). -/
theorem errMatchesFlags_of_code {s : State} (hc : s.errCode ≠ 0)
    (hf : s.cfgErr = true ∨ s.degraded = true ∨ s.decFail = true ∨ s.encFail = true) : ErrMatchesFlags s :=
  ⟨⟨fun _ => hf, fun _ => hc⟩, fun h0 => absurd h0 hc⟩

section Invariants

variable {i : Instr} {s t : State}

theorem Effect.paramsLegal (he : Effect i s t) (h : ParamsLegal s) : ParamsLegal t := by
  cases he <;> exact h

theorem Effect.holdMatchesState (he : Effect i s t) (h : HoldMatchesState s) : HoldMatchesState t := by
  cases he with
  | hold => exact ⟨fun _ => rfl, fun _ => rfl⟩
  | release | stopO | killO => exact ⟨nofun, nofun⟩
  | _ => exact h

theorem Effect.queuesBounded (he : Effect i s t) (h : QueuesBounded s) : QueuesBounded t := by
  obtain ⟨hiq, hoq, hdq⟩ := h
  cases he with
  | pushDq b hroom => exact ⟨hiq, hoq, fun _ => by simpa using hroom⟩
  | pushOq b hroom => exact ⟨hiq, by simpa using hroom, hdq⟩
  | pushIq c hroom => exact ⟨by simpa using hroom, hoq, hdq⟩
  | popDq hq => exact ⟨hiq, hoq, fun hrun => Nat.le_of_succ_le (by simpa [hq] using hdq hrun)⟩
  | popOq hq => exact ⟨hiq, Nat.le_of_succ_le (by simpa [hq] using hoq), hdq⟩
  | popIq hq | load _ _ hq => exact ⟨Nat.le_of_succ_le (by simpa [hq] using hiq), hoq, hdq⟩
  | writeCfg _ _ hg => exact ⟨hiq, hoq, fun hrun => by simp [hg] at hrun⟩
  | _ => exact ⟨hiq, hoq, hdq⟩

/-- A chunk inside the envelope, appended below a full block, keeps `ACC` within `ACC_CAP` (R21, R151). -/
theorem append_length_le (s : State) (c : Chunk) (hroom : s.acc.length < s.cfg.blockSize)
    (hfit : c.length ≤ s.params.maxChunk) : (s.acc ++ c).length ≤ s.accCap := by
  rw [List.length_append, State.accCap]
  omega

theorem Effect.accumulatorBounded (he : Effect i s t) (hc : ChunksFit s) (h : AccumulatorBounded s) :
    AccumulatorBounded t := by
  cases he with
  | append c _ hroom hfit => exact fun _ => append_length_le s c hroom hfit
  | @load c _ _ hroom hq => exact fun _ => append_length_le s c hroom (hc c (by simp [hq]))
  | takeBlock => exact fun hrun => ((List.drop_sublist _ _).length_le).trans (h hrun)
  | writeCfg _ _ hg => exact fun hrun => by simp [hg] at hrun
  | _ => exact h

theorem Effect.chunksFit (he : Effect i s t) (h : ChunksFit s) : ChunksFit t := by
  cases he with
  | pushIq c _ hfit =>
    intro d hd
    obtain hd | hd := List.mem_append.mp hd
    · exact h d hd
    · exact List.mem_singleton.mp hd ▸ hfit
  | popIq hq | load _ _ hq => exact fun d hd => h d (hq ▸ List.mem_cons_of_mem _ hd)
  | _ => exact h

theorem Effect.seqFollowsIndex (he : Effect i s t) (h : SeqFollowsIndex s) : SeqFollowsIndex t := by
  cases he with
  | frame =>
    simp only [SeqFollowsIndex] at h ⊢
    bv_omega
  | _ => exact h

theorem Effect.marksNotAhead (he : Effect i s t) (h : MarksNotAhead s) : MarksNotAhead t := by
  obtain ⟨hout, hctx, hlast, hwin⟩ := h
  cases he with
  | markOut => exact ⟨notAhead_now s.now, hctx, hlast, hwin⟩
  | markCtx => exact ⟨hout, notAhead_now s.now, hlast, hwin⟩
  | observe n =>
    obtain ⟨hl, hw⟩ := observe_mtr_marks s n hwin
    exact ⟨hout, hctx, hl ▸ notAhead_now s.now, hw⟩
  | tick n =>
    have hle : s.now ≤ s.now + n := Nat.le_add_right s.now n
    exact ⟨notAhead_mono hle hout, notAhead_mono hle hctx, notAhead_mono hle hlast, hwin.trans hle⟩
  | _ => exact ⟨hout, hctx, hlast, hwin⟩

theorem Effect.degradedIffDead (he : Effect i s t) (h : DegradedIffDead s) : DegradedIffDead t := by
  cases he with
  | killP => exact ⟨fun _ => .inl rfl, fun _ => rfl⟩
  | killO => exact ⟨fun _ => .inr (.inl rfl), fun _ => rfl⟩
  | killC => exact ⟨fun _ => .inr (.inr rfl), fun _ => rfl⟩
  | hold _ _ hg | release _ hg | stopP _ hg | stopC _ hg | exitC _ hg => simpa [DegradedIffDead, hg] using h
  | stopO _ hg => obtain hg | hg := hg <;> simpa [DegradedIffDead, hg] using h
  | _ => exact h

theorem Effect.runIsConfigured (he : Effect i s t) (h : RunIsConfigured s) : RunIsConfigured t := by
  cases he with
  | writeCfg _ _ hg => exact fun hrun => by simp [hg] at hrun
  | _ => exact h

/-- A stage moves into no running state but from another one. -/
theorem Effect.stagesRunInARun (he : Effect i s t) (h : StagesRunInARun s) : StagesRunInARun t := by
  simp only [StagesRunInARun, allStagesOut_iff] at h ⊢
  cases he with
  | hold _ _ hg | release _ hg => exact fun hrun => absurd hg (by simp [h hrun])
  | killP | stopP => exact fun hrun => have ⟨_, ho, hc⟩ := h hrun; ⟨nofun, ho, hc⟩
  | killO | stopO => exact fun hrun => have ⟨hp, _, hc⟩ := h hrun; ⟨hp, ⟨nofun, nofun⟩, hc⟩
  | killC | stopC | exitC => exact fun hrun => have ⟨hp, ho, _⟩ := h hrun; ⟨hp, ho, nofun⟩
  | _ => exact h

theorem Effect.flagsMatchCounters (he : Effect i s t) (h : FlagsMatchCounters s) : FlagsMatchCounters t := by
  obtain ⟨hdq, hoq, hdec⟩ := h
  cases he with
  | dropDq => exact ⟨⟨fun _ => satInc_ne_zero _, fun _ => rfl⟩, hoq, hdec⟩
  | dropOq => exact ⟨hdq, ⟨fun _ => satInc_ne_zero _, fun _ => rfl⟩, hdec⟩
  | decodeFailed => exact ⟨hdq, hoq, fun _ => satInc_ne_zero _, fun _ => rfl⟩
  | _ => exact ⟨hdq, hoq, hdec⟩

/-- An effect that writes `ERR` leaves a code there and a flag of its class. -/
theorem Effect.errMatchesFlags (he : Effect i s t) (h : ErrMatchesFlags s) : ErrMatchesFlags t := by
  cases he with
  | encodeFailed => exact errMatchesFlags_of_code (recorded_ne_zero _ _) (.inr (.inr (.inr rfl)))
  | decodeFailed => exact errMatchesFlags_of_code (recorded_ne_zero _ _) (.inr (.inr (.inl rfl)))
  | killP | killO | killC => exact errMatchesFlags_of_code (recorded_ne_zero _ _) (.inr (.inl rfl))
  | _ => exact h

theorem Effect.windowBelowGranularity (he : Effect i s t) (hp : ParamsLegal s) (h : WindowBelowGranularity s) :
    WindowBelowGranularity t := by
  cases he with
  | observe n =>
    obtain ⟨-, -, -, hn⟩ := hp
    exact Meter.report_cnt_lt _ s.params.tickHz s.params.mtrN s.now s.drawn hn
  | _ => exact h

theorem Effect.legalInStep (he : Effect i s t) (h : LegalInStep s) : LegalInStep t where
  params := he.paramsLegal h.params
  hold := he.holdMatchesState h.hold
  queues := he.queuesBounded h.queues
  accumulator := he.accumulatorBounded h.chunks h.accumulator
  chunks := he.chunksFit h.chunks
  seq := he.seqFollowsIndex h.seq
  marks := he.marksNotAhead h.marks
  degraded := he.degradedIffDead h.degraded
  configured := he.runIsConfigured h.configured
  stages := he.stagesRunInARun h.stages
  counters := he.flagsMatchCounters h.counters
  err := he.errMatchesFlags h.err
  window := he.windowBelowGranularity h.params h.window

/-! ### START and RESET -/

/-- A failed START is outside a run, and records the failure with its flag (R198, R235). -/
theorem LegalInStep.startFailed (h : LegalInStep s) (hrun : s.running = false) (e : ErrCode) :
    LegalInStep (s.startFailed e) :=
  { h with
    configured := fun hr => absurd hr (by simp [hrun])
    err := errMatchesFlags_of_code e.code_ne_zero (.inl rfl) }

/-- A run starts with everything fresh under a configuration that passed the checks (R198). -/
theorem LegalInStep.startRun (h : LegalInStep s) (hdeg : s.degraded = false) (hcfg : s.cfg.startError = none)
    (tod : BitVec 96) : LegalInStep (s.startRun tod) :=
  { h with
    hold := ⟨nofun, nofun⟩
    queues := ⟨Nat.zero_le _, Nat.zero_le _, fun _ => Nat.zero_le _⟩
    accumulator := fun _ => Nat.zero_le _
    chunks := nofun
    seq := rfl
    marks := ⟨rfl, rfl, rfl, Nat.zero_le _⟩
    degraded := by simp [DegradedIffDead, State.startRun, hdeg]
    configured := fun _ => ⟨hcfg, rfl⟩
    stages := nofun
    counters := by simp [FlagsMatchCounters, State.startRun]
    err := by simp [ErrMatchesFlags, State.startRun, hdeg]
    window := have ⟨_, _, _, hn⟩ := h.params; hn }

theorem execStart_legalInStep {tod : BitVec 96} (h : LegalInStep s) (ht : execStart tod s = .next t) :
    LegalInStep t := by
  obtain ⟨-, rfl⟩ | ⟨hrun, hdeg, ⟨e, -, rfl⟩ | ⟨hcfg, rfl⟩⟩ := execStart_cases ht
  · exact { h with }
  · exact { h.startFailed hrun e with }
  · exact { h.startRun hdeg hcfg tod with }

/-- After reset VRTB is legal, whatever the parameters, the time, the agenda and the draws (R34, R260). -/
theorem legal_reset (hp : ParamsLegal s) :
    Legal { State.reset with params := s.params, now := s.now, agenda := s.agenda, drawn := s.drawn } where
  params := hp
  hold := ⟨nofun, nofun⟩
  queues := ⟨Nat.zero_le _, Nat.zero_le _, nofun⟩
  accumulator := nofun
  chunks := nofun
  seq := rfl
  marks := ⟨rfl, rfl, rfl, Nat.zero_le _⟩
  degraded := by simp [DegradedIffDead, State.reset]
  configured := nofun
  stages := fun _ => rfl
  stop := nofun
  counters := by simp [FlagsMatchCounters, State.reset]
  err := by simp [ErrMatchesFlags, State.reset]
  window := have ⟨_, _, _, hn⟩ := hp; hn

/-- The machine's parameters are within R5's bounds. -/
theorem paramsLegal_reset : ParamsLegal State.reset :=
  ⟨Nat.le_add_left 1 _, Nat.le_add_left 1 _, Nat.le_add_left 1 _, Nat.le_add_left 1 _⟩

/-- Settles O54: the state after reset is what RESET leaves of it. -/
theorem resetIsLegal : Obligations.ResetIsLegal := legal_reset paramsLegal_reset

/-! ### Every operation, and the step -/

theorem exec_legalInStep (h : LegalInStep s) (ht : exec i s = .next t) : LegalInStep t := by
  by_cases hr : i = .reset
  · subst hr
    obtain rfl := (finish_eq_next _ t .done).mp ht
    exact { (legal_reset h.params).inStep with }
  by_cases hs : ∃ tod, i = .start tod
  · obtain ⟨tod, rfl⟩ := hs
    exact execStart_legalInStep h ht
  · exact (exec_effects hr (fun tod hi => hs ⟨tod, hi⟩) ht).keeps (fun _ _ => Effect.legalInStep) h

end Invariants

/-- Settles O55: the fetch touches none of the registers, the operation keeps all but the completion of a stop,
and the end of the step completes it. -/
theorem stepKeepsLegal : Obligations.StepKeepsLegal := by
  intro s t h ht
  obtain ⟨ts, n, i, u, -, hu, rfl⟩ := step_cases ht
  have hf : LegalInStep { s with agenda := ts, drawn := n } := { h.inStep with }
  exact (exec_legalInStep hf hu).completeStop

end Sys2Proof.Machine
end

section
/-! PROOF. O44 and O43: the registers as the host reads and writes them, and what RESET leaves. -/

namespace Sys2Proof.Machine

/-! ### CFG.WRITE (R20) -/

/-- What a register reads as after an assignment to it: `CFG_BIT_RES` its byte, another its word. -/
def assignResult : CfgAssign → Result
  | .bitRes v => .byte v
  | a => .word (BitVec.ofNat 32 (assignValue a))

theorem read_write_same (c : Cfg) (a : CfgAssign) : (c.write a).read (assignReg a) = assignResult a := by
  cases a with
  | bitRes v => rfl
  | ctxTemplate k v =>
    have hk : (c.ctxTemplate.set k v).get k = v := Vector.getElem_set_self k.isLt
    simp [Cfg.write, Cfg.read, assignReg, assignResult, assignValue, hk]
  | _ v => exact congrArg Result.word (BitVec.ofNat_toNat 32 v).symm

/-- Only the words of the template share a field of `Cfg`. -/
theorem read_write_other (c : Cfg) {a : CfgAssign} {r : CfgReg} (h : r ≠ assignReg a) :
    (c.write a).read r = c.read r := by
  cases a with
  | ctxTemplate k v =>
    cases r with
    | ctxTemplate j =>
      have hjk : (k : Nat) ≠ j := fun hkj => h (congrArg CfgReg.ctxTemplate (Fin.ext hkj.symm))
      exact congrArg Result.word (Vector.getElem_set_ne k.isLt j.isLt hjk)
    | _ => rfl
  | _ v => cases r <;> first | rfl | exact absurd rfl h

/-! ### STATUS and ERR, field by field (R30, R31) -/

/-- `STATUS` bit by bit, at the width its fields add up to. -/
theorem statusWord_getLsbD (s : State) (j : Nat) : s.statusWord.getLsbD j =
    (0#18 ++ BitVec.ofBool s.encFail ++ BitVec.ofBool s.decFail ++ BitVec.ofBool s.dropOq
      ++ BitVec.ofBool s.dropDq ++ s.cState.code ++ s.oState.code ++ s.pState.code
      ++ BitVec.ofBool s.degraded ++ BitVec.ofBool s.stopReq ++ BitVec.ofBool s.cfgErr
      ++ BitVec.ofBool s.running).getLsbD j := rfl

theorem statusWord_flags (s : State) :
    s.statusWord.getLsbD 0 = s.running ∧ s.statusWord.getLsbD 1 = s.cfgErr ∧
      s.statusWord.getLsbD 2 = s.stopReq ∧ s.statusWord.getLsbD 3 = s.degraded ∧
      s.statusWord.getLsbD 10 = s.dropDq ∧ s.statusWord.getLsbD 11 = s.dropOq ∧
      s.statusWord.getLsbD 12 = s.decFail ∧ s.statusWord.getLsbD 13 = s.encFail := by
  simp only [statusWord_getLsbD, BitVec.getLsbD_append]
  simp

/-- A two-bit field is its two bits. -/
theorem extractLsb'_two_eq {w : Word} {k : Nat} {c : BitVec 2} (hlow : w.getLsbD k = c.getLsbD 0)
    (hhigh : w.getLsbD (k + 1) = c.getLsbD 1) : w.extractLsb' k 2 = c := by
  refine BitVec.eq_of_getLsbD_eq fun j hj => ?_
  obtain rfl | rfl : j = 0 ∨ j = 1 := by omega
  · simpa [BitVec.getLsbD_extractLsb'] using hlow
  · simpa [BitVec.getLsbD_extractLsb'] using hhigh

theorem statusWord_stages (s : State) :
    s.statusWord.extractLsb' 4 2 = s.pState.code ∧ s.statusWord.extractLsb' 6 2 = s.oState.code ∧
      s.statusWord.extractLsb' 8 2 = s.cState.code := by
  refine ⟨extractLsb'_two_eq ?_ ?_, extractLsb'_two_eq ?_ ?_, extractLsb'_two_eq ?_ ?_⟩ <;>
    simp only [statusWord_getLsbD, BitVec.getLsbD_append] <;> simp

theorem statusWord_reserved (s : State) : s.statusWord >>> 14 = 0 := by
  refine BitVec.eq_of_getLsbD_eq fun j _ => ?_
  simp only [BitVec.getLsbD_ushiftRight, statusWord_getLsbD, BitVec.getLsbD_append]
  repeat rw [if_neg (by omega)]
  simp

theorem errWord_getLsbD (s : State) (j : Nat) :
    s.errWord.getLsbD j = (0#16 ++ s.errOp ++ s.errCode).getLsbD j := rfl

theorem errWord_fields (s : State) : s.errWord.extractLsb' 0 8 = s.errCode ∧
    s.errWord.extractLsb' 8 8 = s.errOp ∧ s.errWord >>> 16 = 0 := by
  refine ⟨?_, ?_, ?_⟩ <;> refine BitVec.eq_of_getLsbD_eq fun j hj => ?_ <;>
    simp only [BitVec.getLsbD_extractLsb', BitVec.getLsbD_ushiftRight, errWord_getLsbD, BitVec.getLsbD_append]
  · simp [hj]
  · simp [hj]
  · rw [if_neg (by omega), if_neg (by omega)]
    simp

theorem PState.code_toNat (p : PState) : p.code.toNat = match p with | .off => 0 | .run => 1 | .dead => 2 := by
  cases p <;> rfl

theorem OState.code_toNat (o : OState) :
    o.code.toNat = match o with | .off => 0 | .wait => 1 | .holding => 2 | .dead => 3 := by
  cases o <;> rfl

theorem CState.code_toNat (c : CState) :
    c.code.toNat = match c with | .off => 0 | .run => 1 | .done => 2 | .dead => 3 := by
  cases c <;> rfl

/-- Settles O44: a write by what the registers then read as, a read by the value it returns. -/
theorem registerAccess : Obligations.RegisterAccess := by
  intro s
  obtain ⟨hrun, hcfg, hstop, hdeg, hdq, hoq, hdec, henc⟩ := statusWord_flags s
  obtain ⟨hp, ho, hc⟩ := statusWord_stages s
  refine ⟨fun a hr => ?_, fun a hr => ⟨s.cfg.write a, ?_, fun r hne => read_write_other s.cfg hne, ?_⟩,
    ⟨s.statusWord, rfl, hrun, hcfg, hstop, hdeg, hp ▸ s.pState.code_toNat, ho ▸ s.oState.code_toNat,
      hc ▸ s.cState.code_toNat, hdq, hoq, hdec, henc, statusWord_reserved s⟩,
    ⟨s.errWord, rfl, errWord_fields s⟩, rfl, rfl, rfl, rfl, rfl, fun r => rfl⟩
  · simp [exec, execCfgWrite, hr, finish]
  · simp [exec, execCfgWrite, hr, finish]
  · rw [read_write_same]
    cases a <;> rfl

/-! ### RESET (R34, R260) -/

/-- Settles O43: RESET leaves the state after reset but for the model's own fields, and there each register
has the value of R34. -/
theorem resetClearsEverything : Obligations.ResetClearsEverything := by
  intro s
  refine ⟨_, rfl, rfl, rfl, rfl, rfl, rfl, fun u hu => ?_⟩
  obtain rfl | hu := List.mem_cons.mp hu
  · have hstatus : State.reset.statusWord = 0 := by decide
    have herr : State.reset.errWord = 0 := by decide
    exact ⟨rfl, rfl, rfl, rfl, rfl, rfl, hstatus, herr, rfl⟩
  · obtain rfl := List.mem_singleton.mp hu
    exact ⟨rfl, rfl, rfl, rfl, rfl, rfl, by decide, by decide, rfl⟩

end Sys2Proof.Machine
end

section
/-! PROOF. O32, O34 and O27: the framer's packets, and the limiter's call. -/

namespace Sys2Proof.Machine

/-! ### The framer (R180, R183) -/

theorem blockTime_of_rate_ne_zero {s : State} (h : s.cfg.sampleRate ≠ 0) (k : Nat) : s.blockTime k =
    s.t0.toNat + k * s.cfg.sampleCount.toNat * 10 ^ 12 / s.cfg.sampleRate.toNat := by
  have hr : s.cfg.rate ≠ 0 := fun h0 => h (BitVec.eq_of_toNat_eq h0)
  rw [State.blockTime, if_neg hr]
  rfl

/-- Settles O32: the Packet is `dataPacket`'s, its time that of a positive sample rate. -/
theorem frameDataBuilds : Obligations.FrameDataBuilds := by
  intro blk s hrate f pt p
  have hp : s.dataPacket blk = p := by
    rw [State.dataPacket, blockTime_of_rate_ne_zero hrate]
    rfl
  have hexec : exec (.frameData blk) s = .next { s with
      seq := s.seq + 1, blkIdx := s.blkIdx + 1
      out := resultOf .bytes (pktEnc s.params.layout (s.dataPacket blk)) } := rfl
  rw [hexec, hp]
  cases pktEnc s.params.layout p <;> rfl

/-- Settles O34: the Packet is `contextPacket`'s. -/
theorem frameCtxBuilds : Obligations.FrameCtxBuilds := by
  intro tod s f pt p
  have hexec : exec (.frameCtx tod) s = .next { s with
      ctxSeq := if f.getLsbD 12 then s.ctxSeq else s.ctxSeq + 1
      drawn := s.drawn + 1
      out := resultOf .bytes (pktEnc s.params.layout p) } := rfl
  rw [hexec]
  cases pktEnc s.params.layout p <;> rfl

/-! ### RL.CALL (R162) -/

/-- RL.CALL when due leaves what the wrapped operation leaves, and the mark at `NOW`, which that operation does
not move. -/
theorem exec_rlCall_due {s u : State} {l : Limiter} {op : WrappedOp l} {r : Result} (hd : s.due l = true)
    (hw : s.runWrapped op = some (u, r)) :
    exec (.rlCall l op) s = .next (State.setLimiterLast { u with out := r } l (some s.now)) := by
  rw [← (runWrapped_keepsClock hw).now]
  simp only [exec, execRlCall, State.limiterCall, if_pos hd, hw, Option.map_some, finishOrHold_some, finish]
  cases l <;> rfl

/-- If `op` is the wrapped form of operation `i`, RL.CALL of it does what `i` does and marks. -/
theorem rlCall_of_exec {s u : State} {i : Instr} {l : Limiter} {op : WrappedOp l} {r : Result}
    (hd : s.due l = true) (hw : s.runWrapped op = some (u, r)) (hi : exec i s = .next { u with out := r }) :
    ∃ v, exec i s = .next v ∧ exec (.rlCall l op) s = .next (v.setLimiterLast l (some s.now)) :=
  ⟨_, hi, exec_rlCall_due hd hw⟩

/-- Q.TRYPUSH does not read the last result. -/
theorem tryPush_with_out (s : State) (item : QueueItem) (r : Result) : State.tryPush { s with out := r } item =
    ({ (s.tryPush item).1 with out := r }, (s.tryPush item).2) := by
  cases item <;> unfold State.tryPush <;> dsimp only <;> split <;> rfl

theorem exec_tryPush_oq (s : State) (pkt : Bytes) : exec (.qTryPush (.oq pkt)) s =
    .next { (s.tryPush (.oq pkt)).1 with out := (s.tryPush (.oq pkt)).2 } := rfl

/-- C.EMIT's wrapped operation is FRAME.CTX and then Q.TRYPUSH of its packet, or FRAME.CTX and the record of its
error (R207, R236). -/
theorem buildAndPush_is_frameCtx_tryPush (s : State) (tod : BitVec 96) :
    (∃ (b : Bytes) (v : State), exec (.frameCtx tod) s = .next v ∧ v.out = .bytes b ∧
        exec (.qTryPush (.oq b)) v = .next { (s.buildAndPush tod).1 with out := (s.buildAndPush tod).2 }) ∨
      ∃ (e : ErrCode) (v : State), exec (.frameCtx tod) s = .next { v with out := .error e } ∧
        { (s.buildAndPush tod).1 with out := (s.buildAndPush tod).2 } = { v with
          encFail := true, errCode := if v.errCode = 0 then e.code else v.errCode
          errOp := if v.errCode = 0 then opFrameCtx else v.errOp, out := .error e } := by
  obtain ⟨e, he, hb⟩ | ⟨b, hb, hp⟩ := buildAndPush_cases s tod
  · refine .inr ⟨e, (s.frameCtx tod).1, ?_, ?_⟩
    · simp [exec, execFrameCtx, he, finish, resultOf]
    · simp only [hb, encodeFailed_eq]
  · refine .inl ⟨b, { (s.frameCtx tod).1 with out := .bytes b }, ?_, rfl, ?_⟩
    · simp [exec, execFrameCtx, hb, finish, resultOf]
    · rw [exec_tryPush_oq, tryPush_with_out, hp]

/-- Settles O27: for each wrapped operation, its own meaning and the mark. -/
theorem rlCallPerformsAndMarks : Obligations.RlCallPerformsAndMarks := by
  intro s markedOut markedCtx
  refine ⟨fun hd => ⟨fun pkt => rlCall_of_exec hd rfl rfl, fun hq => ?_, fun n => rlCall_of_exec hd rfl rfl,
      fun pkt hp => ?_⟩,
    fun hd => ⟨fun pkt => rlCall_of_exec hd rfl rfl, rlCall_of_exec hd rfl rfl,
      fun tod => rlCall_of_exec hd rfl rfl, fun p => rlCall_of_exec hd rfl rfl,
      fun tod => ⟨_, exec_rlCall_due (u := (s.buildAndPush tod).1) (r := (s.buildAndPush tod).2) hd rfl,
        buildAndPush_is_frameCtx_tryPush s tod⟩⟩⟩
  · obtain ⟨b, rest, hb⟩ := List.exists_cons_of_ne_nil hq
    have hpop : s.pop .dq = some ({ s with dq := rest }, .bytes b) := by simp [State.pop, hb]
    exact rlCall_of_exec hd hpop (by simp [exec, execQPop, hpop, finish])
  · have hw : s.runWrapped .pushHold = some (s.tryPush (.oq pkt)) := by simp [State.runWrapped, hp]
    exact rlCall_of_exec hd hw rfl

end Sys2Proof.Machine
end

section
/-! PROOF. For O39: what one operation does to the queues. RESET and START apart, it moves at most one item of one
queue (`QueueMove`), and only P.EMIT, O.FETCH and the primitives touch `DQ`. -/

namespace Sys2Proof.Machine

/-! ### Each queue under an operation (R45, R48) -/

/-- The operations that may write `DQ` or count its drops: P.EMIT, O.FETCH, and the primitives that no agent
performs on their own (R250; log 15). -/
abbrev TouchesDq (i : Instr) : Prop := i = .pEmit ∨ i = .oFetch ∨ agentOf i = none

/-- The three queues and the counter of the drops at `DQ`. -/
structure Queues where
  iq : List Chunk
  dq : List Bytes
  oq : List Bytes
  dropDqCnt : BitVec 32

/-- The queues of a state. -/
def State.queues (s : State) : Queues := ⟨s.iq, s.dq, s.oq, s.dropDqCnt⟩

/-- What one operation, neither RESET nor START, does to the queues: it moves one item at most. -/
inductive QueueMove (i : Instr) (q : Queues) : Queues → Prop
  | keep : QueueMove i q q
  | pushIq (c : Chunk) : QueueMove i q { q with iq := q.iq ++ [c] }
  | pushDq (b : Bytes) (ho : TouchesDq i) : QueueMove i q { q with dq := q.dq ++ [b] }
  | pushOq (b : Bytes) : QueueMove i q { q with oq := q.oq ++ [b] }
  | dropDq (ho : TouchesDq i) : QueueMove i q { q with dropDqCnt := satInc q.dropDqCnt }
  | popIq {c : Chunk} {rest : List Chunk} (hq : q.iq = c :: rest) : QueueMove i q { q with iq := rest }
  | popDq {b : Bytes} {rest : List Bytes} (hq : q.dq = b :: rest) (ho : TouchesDq i) :
      QueueMove i q { q with dq := rest }
  | popOq {b : Bytes} {rest : List Bytes} (hq : q.oq = b :: rest) : QueueMove i q { q with oq := rest }

/-- What has become of one queue: nothing, an item at the end, or its oldest item gone. -/
abbrev OneItem {α : Type} (q q' : List α) : Prop := q' = q ∨ (∃ x, q' = q ++ [x]) ∨ ∃ x, q = x :: q'

theorem QueueMove.oneItem {i : Instr} {p q : Queues} (h : QueueMove i p q) :
    OneItem p.iq q.iq ∧ OneItem p.dq q.dq ∧ OneItem p.oq q.oq := by
  cases h with
  | keep | dropDq => exact ⟨.inl rfl, .inl rfl, .inl rfl⟩
  | pushIq c => exact ⟨.inr (.inl ⟨c, rfl⟩), .inl rfl, .inl rfl⟩
  | pushDq b => exact ⟨.inl rfl, .inr (.inl ⟨b, rfl⟩), .inl rfl⟩
  | pushOq b => exact ⟨.inl rfl, .inl rfl, .inr (.inl ⟨b, rfl⟩)⟩
  | popIq hq => exact ⟨.inr (.inr ⟨_, hq⟩), .inl rfl, .inl rfl⟩
  | popDq hq => exact ⟨.inl rfl, .inr (.inr ⟨_, hq⟩), .inl rfl⟩
  | popOq hq => exact ⟨.inl rfl, .inl rfl, .inr (.inr ⟨_, hq⟩)⟩

theorem QueueMove.dq_eq {i : Instr} {p q : Queues} (h : QueueMove i p q) (hi : ¬ TouchesDq i) :
    q.dq = p.dq ∧ q.dropDqCnt = p.dropDqCnt := by
  cases h with
  | pushDq _ ho | dropDq ho | popDq _ ho => exact absurd ho hi
  | _ => exact ⟨rfl, rfl⟩

/-- Every next state that the meaning of `i` answers in `s` has the queues of `s` but for one move. -/
def AnswerMovesQueues (i : Instr) (s : State) (a : Answer) : Prop :=
  ∀ t, a = .next t → QueueMove i s.queues t.queues

section Moves

variable {i : Instr} {s t u : State}

theorem AnswerMovesQueues.finish {r : Result} (h : QueueMove i s.queues u.queues) :
    AnswerMovesQueues i s (finish u r) := by
  intro t ht
  obtain rfl := (finish_eq_next u t r).mp ht
  exact h

theorem AnswerMovesQueues.hold : AnswerMovesQueues i s (hold s) := .finish .keep

theorem AnswerMovesQueues.refused {why : Refusal} : AnswerMovesQueues i s (.refused why) :=
  fun _ ht => nomatch ht

theorem AnswerMovesQueues.ite {c : Prop} [Decidable c] {a b : Answer} (ha : AnswerMovesQueues i s a)
    (hb : AnswerMovesQueues i s b) : AnswerMovesQueues i s (if c then a else b) := by
  split
  · exact ha
  · exact hb

theorem AnswerMovesQueues.finishOrHold {o : Option (State × Result)}
    (h : ∀ u r, o = some (u, r) → QueueMove i s.queues u.queues) :
    AnswerMovesQueues i s (finishOrHold s o) := by
  cases o with
  | none => exact .hold
  | some a => exact .finish (h a.1 a.2 rfl)

/-- The shape in which the `_cases` lemmas name the state of a pair. -/
theorem QueueMove.of_pair_eq {r : Result} {p : State × Result} (h : p = (t, r))
    (k : QueueMove i s.queues p.1.queues) : QueueMove i s.queues t.queues := by
  subst h
  exact k

theorem recordError_queues (s : State) (e : ErrCode) (op : BitVec 8) :
    (s.recordError e op).queues = s.queues := by
  rw [recordError_eq]
  rfl

theorem encodeFailed_queues (s : State) (e : ErrCode) (op : BitVec 8) :
    (s.encodeFailed e op).queues = s.queues := recordError_queues _ e op

theorem decodeFailed_queues (s : State) (e : ErrCode) : (s.decodeFailed e).queues = s.queues :=
  recordError_queues _ e opPktDec

theorem killStage_queues (s : State) (g : Stage) : (s.killStage g).queues = s.queues := by
  cases g <;> exact recordError_queues _ .stageFault opStageFault

theorem mark_queues (s : State) (l : Limiter) : (s.mark l).queues = s.queues := by cases l <;> rfl

theorem observeIfOk_queues (s : State) (r : Result) (n : Nat) : (s.observeIfOk r n).queues = s.queues := by
  unfold State.observeIfOk
  split <;> rfl

theorem tryPush_queueMove (s : State) {item : QueueItem} (ho : ∀ b, item = .dq b → TouchesDq i) :
    QueueMove i s.queues (s.tryPush item).1.queues := by
  obtain ⟨b, hb, -, h⟩ | ⟨b, hb, -, h⟩ | ⟨b, -, -, h⟩ | ⟨b, -, -, h⟩ | ⟨c, -, -, h⟩ | ⟨c, -, -, h⟩ :=
    tryPush_cases s item <;> rw [h]
  · exact .pushDq b (ho b hb)
  · exact .dropDq (ho b hb)
  · exact .pushOq b
  · exact .keep
  · exact .pushIq c
  · exact .keep

theorem pop_queueMove {q : QueueId} {r : Result} (ho : q = .dq → TouchesDq i) (h : s.pop q = some (t, r)) :
    QueueMove i s.queues t.queues := by
  obtain ⟨b, rest, hd, hq, rfl, -⟩ | ⟨b, rest, -, hq, rfl, -⟩ | ⟨c, rest, -, hq, rfl, -⟩ := pop_cases h
  · exact .popDq hq (ho hd)
  · exact .popOq hq
  · exact .popIq hq

theorem sourcePush_queueMove {c : Chunk} {r : Result} (h : s.sourcePush c = some (t, r)) :
    QueueMove i s.queues t.queues := by
  obtain ⟨-, rfl, -⟩ | ⟨-, -, rfl, -⟩ := sourcePush_cases h
  · exact .pushIq c
  · exact .keep

theorem frameAndPush_queueMove (ho : TouchesDq i) (s : State) (blk : Chunk) :
    QueueMove i s.queues (s.frameAndPush blk).1.queues := by
  obtain ⟨e, -, h⟩ | ⟨b, -, h⟩ := frameAndPush_cases s blk <;> rw [h]
  · rw [encodeFailed_queues]
    exact .keep
  · exact tryPush_queueMove (s.frameData blk).1 fun _ _ => ho

theorem buildAndPush_queueMove (s : State) (tod : BitVec 96) :
    QueueMove i s.queues (s.buildAndPush tod).1.queues := by
  obtain ⟨e, -, h⟩ | ⟨b, -, h⟩ := buildAndPush_cases s tod <;> rw [h]
  · rw [encodeFailed_queues]
    exact .keep
  · exact tryPush_queueMove (s.frameCtx tod).1 nofun

theorem runWrapped_queueMove {l : Limiter} {op : WrappedOp l} {r : Result}
    (h : s.runWrapped op = some (t, r)) : QueueMove (.rlCall l op) s.queues t.queues := by
  cases l with
  | out =>
    obtain ⟨pkt, -, ht⟩ | ⟨-, ht⟩ | ⟨n, -, rfl, -⟩ | ⟨pkt, -, -, ht⟩ := runWrapped_out_cases h
    · exact .of_pair_eq ht.symm (tryPush_queueMove s nofun)
    · exact pop_queueMove (fun _ => .inr (.inr rfl)) ht
    · exact .keep
    · exact .of_pair_eq ht.symm (tryPush_queueMove s nofun)
  | ctx =>
    obtain ⟨pkt, -, ht⟩ | ⟨-, rfl, -⟩ | ⟨tod, -, rfl, -⟩ | ⟨p, -, rfl, -⟩ | ⟨tod, -, ht⟩ := runWrapped_ctx_cases h
    · exact .of_pair_eq ht.symm (tryPush_queueMove s nofun)
    · exact .keep
    · exact .keep
    · exact .keep
    · exact .of_pair_eq ht.symm (buildAndPush_queueMove s tod)

theorem limiterCall_queueMove {l : Limiter} {op : WrappedOp l} {r : Result}
    (h : s.limiterCall l op = some (t, r)) : QueueMove (.rlCall l op) s.queues t.queues := by
  obtain ⟨-, u, hu, rfl⟩ := limiterCall_cases h
  rw [mark_queues]
  exact runWrapped_queueMove hu

theorem execAccEmit_queueMove (s : State) : AnswerMovesQueues i s (execAccEmit s) := by
  refine .finishOrHold fun u r hu => ?_
  obtain ⟨⟨v, blk⟩, hv, he⟩ := Option.map_eq_some_iff.mp hu
  obtain ⟨-, rfl, -⟩ := accTake_cases hv
  obtain ⟨rfl, -⟩ := Prod.mk.inj he
  exact .keep

theorem execHostDec_queueMove (b : Bytes) (s : State) : AnswerMovesQueues i s (execHostDec b s) := by
  unfold execHostDec
  split
  · next e _ => exact .finish (decodeFailed_queues s e ▸ .keep)
  · exact .finish .keep

theorem execPLoad_queueMove (s : State) : AnswerMovesQueues i s (execPLoad s) := by
  intro t ht
  obtain rfl | ⟨c, rest, -, -, -, hq, rfl⟩ := execPLoad_cases ht
  · exact .keep
  · exact .popIq (q := s.queues) hq

theorem execPEmit_queueMove (s : State) : AnswerMovesQueues .pEmit s (execPEmit s) := by
  intro t ht
  obtain rfl | ⟨u, r, -, -, -, hu, rfl⟩ := execPEmit_cases ht
  · exact .keep
  · have hm : QueueMove .pEmit s.queues u.queues :=
      .of_pair_eq hu (frameAndPush_queueMove (.inl rfl) { s with acc := s.acc.drop s.cfg.blockSize } _)
    exact hm

theorem execOFetch_queueMove (s : State) : AnswerMovesQueues .oFetch s (execOFetch s) := by
  intro t ht
  obtain rfl | ⟨pkt, rest, -, -, hq, rfl⟩ := execOFetch_cases ht
  · exact .keep
  · exact .popDq (q := s.queues) hq (.inr (.inl rfl))

theorem execOSend_queueMove (s : State) : AnswerMovesQueues i s (execOSend s) := by
  intro t ht
  obtain rfl | ⟨pkt, u, r, -, -, -, -, hu, rfl⟩ := execOSend_cases ht
  · exact .keep
  · have hk : ((u.mark .out).observeIfOk r pkt.length).queues = u.queues := by
      rw [observeIfOk_queues, mark_queues]
    have hm : QueueMove i s.queues u.queues := .of_pair_eq hu (tryPush_queueMove s nofun)
    exact hk ▸ hm

theorem execCEmit_queueMove (tod : BitVec 96) (s : State) : AnswerMovesQueues i s (execCEmit tod s) := by
  intro t ht
  obtain rfl | ⟨u, r, -, -, -, -, hu, rfl⟩ := execCEmit_cases ht
  · exact .keep
  · have hm : QueueMove i s.queues u.queues := .of_pair_eq hu (buildAndPush_queueMove s tod)
    exact (mark_queues u .ctx).symm ▸ hm

/-- Every operation but RESET and START moves at most one item of one queue (R45). The last group is that of the
operations that end in one `finish` of a state with the queues of `s`. -/
theorem exec_queueMove (hr : i ≠ .reset) (hs : ∀ tod, i ≠ .start tod) (h : exec i s = .next t) :
    QueueMove i s.queues t.queues := by
  suffices AnswerMovesQueues i s (exec i s) from this t h
  cases i
  case reset => exact absurd rfl hr
  case start tod => exact absurd rfl (hs tod)
  case bfEnc | pktSize | stop | cfgWrite => exact .ite (.finish .keep) (.finish .keep)
  case accPush => exact .ite (.ite (.finish .keep) .hold) .refused
  case accEmit => exact execAccEmit_queueMove s
  case rlMark l => exact .finish (mark_queues s l ▸ .keep)
  case rlCall => exact .finishOrHold fun _ _ hu => limiterCall_queueMove hu
  case qTryPush => exact .ite (.finish (tryPush_queueMove s fun _ _ => .inr (.inr rfl))) .refused
  case qPop => exact .finishOrHold fun _ _ hu => pop_queueMove (fun _ => .inr (.inr rfl)) hu
  case snkPop => exact .finishOrHold fun _ _ hu => pop_queueMove (q := .oq) nofun hu
  case pLoad => exact execPLoad_queueMove s
  case pEmit => exact execPEmit_queueMove s
  case oFetch => exact execOFetch_queueMove s
  case oSend => exact execOSend_queueMove s
  case cEmit tod => exact execCEmit_queueMove tod s
  case cExit | pStop | oStop | cStop => exact .ite (.finish .keep) .hold
  case srcPush => exact .ite (.ite (.finishOrHold fun _ _ hu => sourcePush_queueMove hu) .hold) .refused
  case stageFault g => exact .ite (.finish (killStage_queues s g ▸ .keep)) .hold
  case hostDec b => exact execHostDec_queueMove b s
  all_goals exact .finish .keep

end Moves

end Sys2Proof.Machine
end

section
/-! PROOF. O39: a run of the agents accounts for every block framed. Accounts of two stretches are put together
(`Account.append`), and so is that they balance (`Balanced.trans`), so each step of the agents is shown to
balance on its own. -/

namespace Sys2Proof.Machine

/-! ### Accounts that balance -/

/-- The account of one stretch of a run and then another. -/
def Account.append (a b : Account) : Account where
  queued := a.queued ++ b.queued
  droppedDq := b.droppedDq + a.droppedDq
  failed := b.failed + a.failed
  left := a.left ++ b.left
  entered := a.entered ++ b.entered
  droppedOq := b.droppedOq + a.droppedOq
  givenUp := b.givenUp + a.givenUp

theorem Account.framed_append (a b : Account) : (a.append b).framed = a.framed + b.framed := by
  simp only [Account.framed, Account.append, List.length_append]
  omega

/-- From `s` to `t` the account balances: what stood before `OQ` and what was queued has left stage O or still
stands there, in order, and the counters moved with the account. -/
structure Balanced (s : State) (a : Account) (t : State) : Prop where
  order : s.oHold.toList ++ s.dq ++ a.queued = a.left ++ t.oHold.toList ++ t.dq
  entered : a.entered.Sublist a.left
  left_length : a.entered.length + a.droppedOq + a.givenUp = a.left.length
  blkIdx : t.blkIdx.toNat = (s.blkIdx.toNat + a.framed) % 2 ^ 64
  dropDqCnt : t.dropDqCnt.toNat = min (s.dropDqCnt.toNat + a.droppedDq) (2 ^ 32 - 1)
  dropOqCnt : min (s.dropOqCnt.toNat + a.droppedOq) (2 ^ 32 - 1) ≤ t.dropOqCnt.toNat
  failed : 0 < a.failed → t.encFail = true
  encFail : s.encFail = true → t.encFail = true

section Runs

variable {i : Instr} {s t u : State} {a b : Account}

theorem Balanced.trans (h : Balanced s a t) (k : Balanced t b u) : Balanced s (a.append b) u where
  order := calc
    s.oHold.toList ++ s.dq ++ (a.queued ++ b.queued)
      = (s.oHold.toList ++ s.dq ++ a.queued) ++ b.queued := by simp only [List.append_assoc]
    _ = (a.left ++ t.oHold.toList ++ t.dq) ++ b.queued := by rw [h.order]
    _ = a.left ++ (t.oHold.toList ++ t.dq ++ b.queued) := by simp only [List.append_assoc]
    _ = a.left ++ (b.left ++ u.oHold.toList ++ u.dq) := by rw [k.order]
    _ = (a.left ++ b.left) ++ u.oHold.toList ++ u.dq := by simp only [List.append_assoc]
  entered := h.entered.append k.entered
  left_length := by
    have ha := h.left_length
    have hb := k.left_length
    simp only [Account.append, List.length_append]
    omega
  blkIdx := by rw [k.blkIdx, h.blkIdx, Account.framed_append, Nat.mod_add_mod, Nat.add_assoc]
  dropDqCnt := by
    have hs := h.dropDqCnt
    have ht := k.dropDqCnt
    simp only [Account.append]
    omega
  dropOqCnt := by
    have hs := h.dropOqCnt
    have ht := k.dropOqCnt
    simp only [Account.append]
    omega
  failed := fun hf => by
    obtain hb | ha : 0 < b.failed ∨ 0 < a.failed := by simpa [Account.append, Nat.add_pos_iff_pos_or_pos] using hf
    · exact k.failed hb
    · exact k.encFail (h.failed ha)
  encFail := fun hs => k.encFail (h.encFail hs)

/-- The end of a stop touches nothing that the account is about (R199). -/
theorem Balanced.completeStop (h : Balanced s a t) : Balanced s a t.completeStop where
  order := by simpa using h.order
  entered := h.entered
  left_length := h.left_length
  blkIdx := by simpa using h.blkIdx
  dropDqCnt := by simpa using h.dropDqCnt
  dropOqCnt := by simpa using h.dropOqCnt
  failed := by simpa using h.failed
  encFail := by simpa using h.encFail

/-- A counter that did not count (R32). -/
theorem toNat_eq_min (c : BitVec 32) : c.toNat = min (c.toNat + 0) (2 ^ 32 - 1) := by
  have := c.isLt
  omega

/-- A step in which one block is framed, and queued, dropped or failed. -/
theorem Balanced.of_frame {q : List Bytes} {d f : Nat} (hrec : KeepsRecord s t) (hhold : t.oHold = s.oHold)
    (hdq : t.dq = s.dq ++ q) (hone : q.length + d + f = 1) (hblk : t.blkIdx = s.blkIdx + 1)
    (hcnt : t.dropDqCnt.toNat = min (s.dropDqCnt.toNat + d) (2 ^ 32 - 1)) (hfail : 0 < f → t.encFail = true) :
    Balanced s ⟨q, d, f, [], [], 0, 0⟩ t where
  order := by simp [hhold, hdq]
  entered := List.Sublist.refl []
  left_length := rfl
  blkIdx := by simp [Account.framed, hone, hblk]
  dropDqCnt := hcnt
  dropOqCnt := (Nat.min_le_left _ _).trans hrec.dropOqCnt
  failed := hfail
  encFail := hrec.encFail

/-- A step that frames no block: the packets before `OQ` are those that leave and those that stay. -/
theorem Balanced.of_leave {l e : List Bytes} {d g : Nat} (hrec : KeepsRecord s t)
    (hleft : s.oHold.toList ++ s.dq = l ++ t.oHold.toList ++ t.dq) (he : e.Sublist l)
    (hlen : e.length + d + g = l.length) (hblk : t.blkIdx = s.blkIdx) (hcnt : t.dropDqCnt = s.dropDqCnt)
    (hoq : min (s.dropOqCnt.toNat + d) (2 ^ 32 - 1) ≤ t.dropOqCnt.toNat) :
    Balanced s ⟨[], 0, 0, l, e, d, g⟩ t where
  order := by simpa using hleft
  entered := he
  left_length := hlen
  blkIdx := by rw [hblk]; exact (Nat.mod_eq_of_lt s.blkIdx.isLt).symm
  dropDqCnt := hcnt ▸ toNat_eq_min s.dropDqCnt
  dropOqCnt := hoq
  failed := nofun
  encFail := hrec.encFail

theorem Balanced.refl (s : State) : Balanced s Account.none s :=
  .of_leave (.refl s) rfl (.refl []) rfl rfl rfl (Nat.min_le_left _ _)

/-! ### The steps of the agents -/

theorem exec_keepsRecord (hr : i ≠ .reset) (hs : ∀ tod, i ≠ .start tod) (h : exec i s = .next t) :
    KeepsRecord s t :=
  (exec_effects hr hs h).keeps (fun _ _ => Effect.keepsRecord) (.refl s)

/-- No operation parts `O_STATE` from `O_HOLD` (R29). -/
theorem exec_holdMatchesState (hm : HoldMatchesState s) (h : exec i s = .next t) : HoldMatchesState t := by
  by_cases hr : i = .reset
  · subst hr
    obtain rfl := (finish_eq_next _ t .done).mp h
    exact ⟨nofun, nofun⟩
  by_cases hs : ∃ tod, i = .start tod
  · obtain ⟨tod, rfl⟩ := hs
    obtain ⟨-, rfl⟩ | ⟨-, -, ⟨e, -, rfl⟩ | ⟨-, rfl⟩⟩ := execStart_cases h
    · exact hm
    · exact hm
    · exact ⟨nofun, nofun⟩
  · exact (exec_effects hr (fun tod hi => hs ⟨tod, hi⟩) h).keeps (fun _ _ => Effect.holdMatchesState) hm

theorem Takes.holdMatchesState (h : Takes i s t) (hm : HoldMatchesState s) : HoldMatchesState t := by
  obtain ⟨u, hu, -, rfl⟩ := takes_cases h
  simpa [HoldMatchesState] using exec_holdMatchesState hm hu

/-- An agent's step other than P.EMIT frames no block (R250). -/
theorem exec_blkIdx_eq (hr : i ≠ .reset) (hs : ∀ tod, i ≠ .start tod) (hi : i ≠ .pEmit)
    (ha : agentOf i ≠ none) (h : exec i s = .next t) : t.blkIdx = s.blkIdx := by
  by_contra hne
  obtain rfl | ⟨blk, rfl⟩ := (exec_effects hr hs h).owner (fun u => (u.blkIdx, u.seq)) Effect.position_owner
    (fun he => hne (Prod.mk.inj he).1)
  · exact hi rfl
  · exact ha rfl

/-- A block framed and pushed is queued at the end of `DQ`, dropped and counted, or failed and flagged (R202). -/
theorem frameAndPush_outcome (s : State) (blk : Chunk) :
    (∃ b, s.frameAndPush blk =
        ({ s with seq := s.seq + 1, blkIdx := s.blkIdx + 1, dq := s.dq ++ [b] }, .ok)) ∨
      s.frameAndPush blk = (State.countDropDq { s with seq := s.seq + 1, blkIdx := s.blkIdx + 1 }, .full) ∨
      ∃ e, s.frameAndPush blk =
        (State.encodeFailed { s with seq := s.seq + 1, blkIdx := s.blkIdx + 1 } e opFrameData, .error e) := by
  obtain ⟨e, -, h⟩ | ⟨b, -, h⟩ := frameAndPush_cases s blk <;> rw [h, frameData_eq]
  · exact .inr (.inr ⟨e, rfl⟩)
  · simp only [State.tryPush]
    split
    · exact .inl ⟨b, rfl⟩
    · exact .inr (.inl rfl)

/-- What P.EMIT puts in the account, by its answer. -/
theorem execPEmit_balanced (h : execPEmit s = .next t) :
    (∀ b, t.out = .ok → t.dq = s.dq ++ [b] → Balanced s ⟨[b], 0, 0, [], [], 0, 0⟩ t) ∧
      (t.out = .full → Balanced s ⟨[], 1, 0, [], [], 0, 0⟩ t) ∧
      ∀ e, t.out = .error e → Balanced s ⟨[], 0, 1, [], [], 0, 0⟩ t := by
  have hrec : KeepsRecord s t := exec_keepsRecord (i := .pEmit) nofun nofun h
  obtain rfl | ⟨u, r, -, -, -, hu, rfl⟩ := execPEmit_cases h
  · exact ⟨nofun, nofun, nofun⟩
  obtain ⟨b, hp⟩ | hp | ⟨e, hp⟩ := frameAndPush_outcome { s with acc := s.acc.drop s.cfg.blockSize }
    (s.acc.take s.cfg.blockSize) <;> obtain ⟨rfl, rfl⟩ := Prod.mk.inj (hp.symm.trans hu)
  · exact ⟨fun b _ hdq => .of_frame hrec rfl hdq rfl rfl (toNat_eq_min _) nofun, nofun, nofun⟩
  · exact ⟨nofun, fun _ => .of_frame hrec rfl (List.append_nil _).symm rfl rfl (satInc_toNat _) nofun, nofun⟩
  · rw [encodeFailed_eq] at hrec ⊢
    exact ⟨nofun, nofun, fun e _ =>
      .of_frame hrec rfl (List.append_nil _).symm rfl rfl (toNat_eq_min _) fun _ => rfl⟩

/-- An agent's step other than P.EMIT and O.FETCH leaves `DQ` and its drops (R250). -/
theorem exec_keepsDq (hr : i ≠ .reset) (hs : ∀ tod, i ≠ .start tod) (hp : i ≠ .pEmit) (hf : i ≠ .oFetch)
    (ha : agentOf i ≠ none) (h : exec i s = .next t) : t.dq = s.dq ∧ t.dropDqCnt = s.dropDqCnt := by
  refine (exec_queueMove hr hs h).dq_eq ?_
  rintro (h | h | h)
  · exact hp h
  · exact hf h
  · exact ha h

theorem tryPush_oq_full {pkt : Bytes} (h : s.tryPush (.oq pkt) = (u, .full)) : u = s.countDropOq := by
  simp only [State.tryPush] at h
  split at h
  · cases h
  · exact (Prod.mk.inj h).1.symm

theorem observeIfOk_dropOqCnt (s : State) (r : Result) (n : Nat) :
    (s.observeIfOk r n).dropOqCnt = s.dropOqCnt := by
  unfold State.observeIfOk
  split <;> rfl

/-- What O.SEND puts in the account, by its answer. -/
theorem execOSend_balanced {b : Bytes} (h : execOSend s = .next t) (hb : s.oHold = some b) :
    (t.out = .ok → Balanced s ⟨[], 0, 0, [b], [b], 0, 0⟩ t) ∧
      (t.out = .full → Balanced s ⟨[], 0, 0, [b], [], 1, 0⟩ t) := by
  have hrec : KeepsRecord s t := exec_keepsRecord (i := .oSend) nofun nofun h
  have hblk : t.blkIdx = s.blkIdx := exec_blkIdx_eq (i := .oSend) nofun nofun nofun nofun h
  obtain ⟨hdq, hcnt⟩ := exec_keepsDq (i := .oSend) nofun nofun nofun nofun nofun h
  obtain rfl | ⟨pkt, u, r, -, -, -, -, hu, rfl⟩ := execOSend_cases h
  · exact ⟨nofun, nofun⟩
  have hleft : s.oHold.toList ++ s.dq = [b] ++ s.dq := by rw [hb]; rfl
  refine ⟨fun _ => .of_leave hrec ?_ (.refl _) rfl hblk hcnt ((Nat.min_le_left _ _).trans hrec.dropOqCnt),
    fun (hfull : r = .full) => .of_leave hrec ?_ (List.nil_sublist _) rfl hblk hcnt ?_⟩
  · rw [hdq]; exact hleft
  · rw [hdq]; exact hleft
  · subst hfull
    obtain rfl := tryPush_oq_full hu
    rw [observeIfOk_dropOqCnt]
    exact (satInc_toNat s.dropOqCnt).ge

/-- O.STOP and a fault of stage O let the held packet go (R199, R213). -/
theorem exec_giveUp_oHold (hi : i = .oStop ∨ i = .stageFault .o) (h : exec i s = .next t) (ho : t.out ≠ .held) :
    t.oHold = none := by
  obtain rfl | rfl := hi
  · simp only [exec, execOStop] at h
    split at h
    · obtain rfl := (finish_eq_next _ _ _).mp h
      rfl
    · obtain rfl := (hold_eq_next _ _).mp h
      exact absurd rfl ho
  · simp only [exec, execStageFault] at h
    split at h
    · obtain rfl := (finish_eq_next _ _ _).mp h
      exact State.recordError_oHold _ _ _
    · obtain rfl := (hold_eq_next _ _).mp h
      exact absurd rfl ho

theorem exec_giveUp_balanced {b : Bytes} (hi : i = .oStop ∨ i = .stageFault .o) (h : exec i s = .next t)
    (ho : t.out ≠ .held) (hb : s.oHold = some b) : Balanced s ⟨[], 0, 0, [b], [], 0, 1⟩ t := by
  obtain ⟨hr, hs, hp, hf, ha⟩ : i ≠ .reset ∧ (∀ tod, i ≠ .start tod) ∧ i ≠ .pEmit ∧ i ≠ .oFetch ∧
      agentOf i ≠ none := by
    obtain rfl | rfl := hi <;> exact ⟨nofun, nofun, nofun, nofun, nofun⟩
  have hrec : KeepsRecord s t := exec_keepsRecord hr hs h
  obtain ⟨hdq, hcnt⟩ := exec_keepsDq hr hs hp hf ha h
  refine .of_leave hrec ?_ (List.nil_sublist _) rfl (exec_blkIdx_eq hr hs hp ha h) hcnt
    ((Nat.min_le_left _ _).trans hrec.dropOqCnt)
  rw [hb, hdq, exec_giveUp_oHold hi h ho]
  rfl

/-- O.FETCH holds the oldest packet of `DQ`, which stays first in line (R204); `O_WAIT` holds none (R29). -/
theorem execOFetch_order (hm : HoldMatchesState s) (h : execOFetch s = .next t) :
    s.oHold.toList ++ s.dq = t.oHold.toList ++ t.dq ∧ t.dropDqCnt = s.dropDqCnt := by
  obtain rfl | ⟨pkt, rest, hw, -, hq, rfl⟩ := execOFetch_cases h
  · exact ⟨rfl, rfl⟩
  · have hnone : s.oHold = none := by
      rw [← Option.not_isSome_iff_eq_none]
      intro hsome
      simp [hm.mpr hsome] at hw
    rw [hnone, hq]
    exact ⟨rfl, rfl⟩

/-- A step that takes no packet out of stage O leaves the packets before `OQ` as they are. -/
theorem exec_order (hr : i ≠ .reset) (hs : ∀ tod, i ≠ .start tod) (hp : i ≠ .pEmit) (hsend : i ≠ .oSend)
    (hg : i = .oStop ∨ i = .stageFault .o → s.oHold = none) (ha : agentOf i ≠ none) (hm : HoldMatchesState s)
    (h : exec i s = .next t) (ho : t.out ≠ .held) :
    s.oHold.toList ++ s.dq = t.oHold.toList ++ t.dq ∧ t.dropDqCnt = s.dropDqCnt := by
  by_cases hf : i = .oFetch
  · subst hf
    exact execOFetch_order hm h
  obtain ⟨hdq, hcnt⟩ := exec_keepsDq hr hs hp hf ha h
  have hhold : t.oHold = s.oHold := by
    by_cases hgive : i = .oStop ∨ i = .stageFault .o
    · rw [exec_giveUp_oHold hgive h ho, hg hgive]
    by_contra hne
    obtain hi | hi | hi := (exec_effects hr hs h).owner (fun u => (u.oHold, u.oState)) Effect.stageO_owner
      (fun he => hne (Prod.mk.inj he).1)
    · exact hf hi
    · exact hsend hi
    · exact hgive hi
  rw [hdq, hhold]
  exact ⟨rfl, hcnt⟩

/-- The other steps of the agents put nothing in the account. -/
theorem exec_other_balanced (hr : i ≠ .reset) (hp : i ≠ .pEmit) (hsend : i ≠ .oSend)
    (hg : i = .oStop ∨ i = .stageFault .o → s.oHold = none)
    (hstart : ∀ tod, i = .start tod → s.running = true ∨ s.degraded = true) (ha : agentOf i ≠ none)
    (hm : HoldMatchesState s) (h : exec i s = .next t) (ho : t.out ≠ .held) : Balanced s Account.none t := by
  by_cases hs : ∃ tod, i = .start tod
  · obtain ⟨tod, rfl⟩ := hs
    obtain ⟨-, rfl⟩ | ⟨hrun, hdeg, -⟩ := execStart_cases h
    · exact { Balanced.refl s with }
    · simpa [hrun, hdeg] using hstart tod rfl
  have hs : ∀ tod, i ≠ .start tod := fun tod hi => hs ⟨tod, hi⟩
  have hrec : KeepsRecord s t := exec_keepsRecord hr hs h
  obtain ⟨horder, hcnt⟩ := exec_order hr hs hp hsend hg ha hm h ho
  exact .of_leave hrec horder (.refl []) rfl (exec_blkIdx_eq hr hs hp ha h) hcnt
    ((Nat.min_le_left _ _).trans hrec.dropOqCnt)

/-- A step whose operation balances `a`, and then a stretch that balances `b`. -/
theorem Balanced.of_takes (hk : Takes i s t) (hm : HoldMatchesState s)
    (hstep : ∀ {v}, exec i s = .next v → v.out ≠ .held → v.out = t.out → v.dq = t.dq → Balanced s a v)
    (hrest : HoldMatchesState t → Balanced t b u) : Balanced s (a.append b) u := by
  have ht := hrest (hk.holdMatchesState hm)
  obtain ⟨v, hv, ho, rfl⟩ := takes_cases hk
  exact (hstep hv ho v.completeStop_out.symm v.completeStop_dq.symm).completeStop.trans ht

/-- The account of every stretch of a run balances. -/
theorem DataRun.balanced (h : DataRun s a t) (hm : HoldMatchesState s) : Balanced s a t := by
  induction h with
  | nil s => exact .refl s
  | emitOk hk ho hdq _ ih =>
    exact .of_takes hk hm (fun hv _ hvo hvq =>
      have ⟨hok, _, _⟩ := execPEmit_balanced hv
      hok _ (hvo.trans ho) (hvq.trans hdq)) ih
  | emitFull hk ho _ ih =>
    exact .of_takes hk hm (fun hv _ hvo _ =>
      have ⟨_, hfull, _⟩ := execPEmit_balanced hv
      hfull (hvo.trans ho)) ih
  | emitError hk ho _ ih =>
    exact .of_takes hk hm (fun hv _ hvo _ =>
      have ⟨_, _, herr⟩ := execPEmit_balanced hv
      herr _ (hvo.trans ho)) ih
  | sendOk hk ho hb _ ih =>
    exact .of_takes hk hm (fun hv _ hvo _ => (execOSend_balanced hv hb).1 (hvo.trans ho)) ih
  | sendFull hk ho hb _ ih =>
    exact .of_takes hk hm (fun hv _ hvo _ => (execOSend_balanced hv hb).2 (hvo.trans ho)) ih
  | giveUp hi hk hb _ ih =>
    exact .of_takes hk hm (fun hv hvh _ _ => exec_giveUp_balanced hi hv hvh hb) ih
  | other hp hsend hr hg hstart hk _ ih =>
    have ha := Option.isSome_iff_ne_none.mp hk.1
    exact .of_takes hk hm (fun hv hvh _ _ => exec_other_balanced hr hp hsend hg hstart ha hm hv hvh) ih

/-! ### The drained point (R209) -/

/-- From an empty start to a drained point, every packet queued has left stage O. -/
theorem Balanced.left_eq_queued (h : Balanced s a t) (hd : Drained t) (hhold : s.oHold = none) (hdq : s.dq = []) :
    a.left = a.queued := by
  obtain ⟨-, -, htq, hth⟩ := hd
  simpa [hhold, hdq, htq, hth] using h.order.symm

theorem Balanced.framed_eq (h : Balanced s a t) (hl : a.left = a.queued) :
    a.framed = a.entered.length + a.droppedOq + a.givenUp + a.droppedDq + a.failed := by
  rw [h.left_length, hl, Account.framed]

/-- The steps of stages P and O (R200). -/
theorem stageStep_of_agentOf (hi : agentOf i = some (.stage .p) ∨ agentOf i = some (.stage .o)) :
    i = .pLoad ∨ i = .pEmit ∨ i = .pStop ∨ i = .oFetch ∨ i = .oSend ∨ i = .oStop := by
  cases i <;> simp [agentOf] at hi ⊢

/-- At a drained point with no stop requested stages P and O wait. -/
theorem Drained.waits (hd : Drained s) (hstop : s.stopReq = false)
    (hi : agentOf i = some (.stage .p) ∨ agentOf i = some (.stage .o)) (h : exec i s = .next t) :
    t.out = .held := by
  obtain ⟨hiq, hacc, hdq, hhold⟩ := hd
  obtain rfl | rfl | rfl | rfl | rfl | rfl := stageStep_of_agentOf hi
  · obtain rfl | ⟨c, rest, -, -, -, hq, -⟩ := execPLoad_cases h
    · rfl
    · simp [hiq] at hq
  · obtain rfl | ⟨u, r, -, -, hfull, -⟩ := execPEmit_cases h
    · rfl
    · exact absurd hacc hfull.not_gt
  · obtain rfl : t = { s with out := .held } := by simpa [exec, execPStop, hstop] using h
    rfl
  · obtain rfl | ⟨pkt, rest, -, -, hq, -⟩ := execOFetch_cases h
    · rfl
    · simp [hdq] at hq
  · obtain rfl | ⟨pkt, u, r, -, -, hb, -⟩ := execOSend_cases h
    · rfl
    · simp [hhold] at hb
  · obtain rfl : t = { s with out := .held } := by simpa [exec, execOStop, hstop] using h
    rfl

theorem Drained.disables (hd : Drained s) (hstop : s.stopReq = false)
    (hi : agentOf i = some (.stage .p) ∨ agentOf i = some (.stage .o)) : ¬ Enabled i s := by
  rintro ⟨t, ht⟩
  obtain ⟨u, hu, ho, -⟩ := takes_cases ht
  exact ho (hd.waits hstop hi hu)

/-! ### START and RESET -/

/-- RESET empties each queue, and START leaves all three or empties them (R198, R260). -/
theorem exec_queues_of_start_or_reset (hi : i = .reset ∨ ∃ tod, i = .start tod) (h : exec i s = .next t) :
    (t.iq = s.iq ∧ t.dq = s.dq ∧ t.oq = s.oq) ∨ (t.iq = [] ∧ t.dq = [] ∧ t.oq = []) := by
  obtain rfl | ⟨tod, rfl⟩ := hi
  · obtain rfl := (finish_eq_next _ t .done).mp h
    exact .inr ⟨rfl, rfl, rfl⟩
  · obtain ⟨-, rfl⟩ | ⟨-, -, ⟨e, -, rfl⟩ | ⟨-, rfl⟩⟩ := execStart_cases h
    · exact .inl ⟨rfl, rfl, rfl⟩
    · exact .inl ⟨rfl, rfl, rfl⟩
    · exact .inr ⟨rfl, rfl, rfl⟩

/-- Settles O39: the account by induction along the run, the queues by what one operation can do to them. -/
theorem queuesAreFifo : Obligations.QueuesAreFifo := by
  refine ⟨fun s t a h hm => ?_, fun i s t h => ?_⟩
  · have hb := h.balanced hm
    refine ⟨hb.order, hb.entered, hb.left_length, hb.blkIdx, hb.dropDqCnt, hb.dropOqCnt, hb.failed,
      fun hd => ⟨fun hhold hdq => ?_, fun hstop i hi => hd.disables hstop hi⟩⟩
    have hl := hb.left_eq_queued hd hhold hdq
    exact ⟨hl, hb.framed_eq hl⟩
  · by_cases hi : i = .reset ∨ ∃ tod, i = .start tod
    · obtain ⟨hiq, hdq, hoq⟩ | ⟨hiq, hdq, hoq⟩ := exec_queues_of_start_or_reset hi h
      · exact ⟨.inl hiq, .inl hdq, .inl hoq⟩
      · exact ⟨.inr (.inr (.inr ⟨hiq, hi⟩)), .inr (.inr (.inr ⟨hdq, hi⟩)), .inr (.inr (.inr ⟨hoq, hi⟩))⟩
    · obtain ⟨hr, hs⟩ := not_or.mp hi
      obtain ⟨hiq, hdq, hoq⟩ := (exec_queueMove hr (not_exists.mp hs) h).oneItem
      exact ⟨hiq.imp_right (.imp_right .inl), hdq.imp_right (.imp_right .inl), hoq.imp_right (.imp_right .inl)⟩

end Runs

end Sys2Proof.Machine
end

section
/-! PROOF. O5: what a step does when nothing is presented or bytes that are no operation, and that what the
decoder answers is an operation (`WellFormed`). -/

namespace Sys2Proof

/-! ### The decoder answers operations only (R72, R111, R210) -/

/-- What the format reads has the property `P`. -/
def OperandFormat.ReadsOnly {α : Type} (f : OperandFormat α) (P : α → Prop) : Prop :=
  ∀ b a rest, f.get b = .ok (a, rest) → P a

theorem fmtRaw_readsOnly (n : Nat) : (fmtRaw n).ReadsOnly (fun b => b.length = n) := by
  intro b a rest h
  simp only [fmtRaw] at h
  split at h
  · cases h
  · next hl =>
    obtain ⟨rfl, -⟩ := Prod.mk.inj (Except.ok.inj h)
    rw [List.length_take]
    omega

theorem parseThen_eq_ok {α β : Type} {r : Parsed α} {k : α → Bytes → Parsed β} {v : β × Bytes}
    (h : parseThen r k = .ok v) : ∃ a rest, r = .ok (a, rest) ∧ k a rest = .ok v := by
  match r, h with
  | .ok (a, rest), h => exact ⟨a, rest, rfl, h⟩

/-- TICK's operand is held as one less. -/
theorem fmtTicks_readsOnly : fmtTicks.ReadsOnly (fun n => 1 ≤ n) := by
  intro b n rest h
  obtain ⟨a, rest', -, hn⟩ := parseThen_eq_ok h
  obtain ⟨rfl, -⟩ := Prod.mk.inj (Except.ok.inj hn)
  exact Nat.le_add_left 1 a

/-- What the decoder answers, if anything, is an operation. -/
def AnswersOperation (r : Except DecodeError Instr) : Prop := ∀ i, r = .ok i → WellFormed i = true

theorem AnswersOperation.ok {i : Instr} (h : WellFormed i = true) : AnswersOperation (.ok i) := by
  rintro _ ⟨⟩
  exact h

theorem AnswersOperation.error (e : DecodeError) : AnswersOperation (.error e) :=
  fun _ h => nomatch h

theorem build_answersOperation_of {α : Type} {f : OperandFormat α} {P : α → Prop} (hf : f.ReadsOnly P) (b : Bytes)
    {mk : α → Instr} (hmk : ∀ a, P a → WellFormed (mk a) = true) : AnswersOperation (build f b mk) := by
  unfold build
  split
  · exact .error _
  · next a rest h => exact .ok (hmk a (hf b a rest h))

theorem build_answersOperation {α : Type} (f : OperandFormat α) (b : Bytes) {mk : α → Instr}
    (hmk : ∀ a, WellFormed (mk a) = true) : AnswersOperation (build f b mk) :=
  build_answersOperation_of (P := fun _ => True) (fun _ _ _ _ => trivial) b fun a _ => hmk a

theorem decodePacket_answersOperation (l : Layout) (b : Bytes) : AnswersOperation (decodePacket l b) := by
  unfold decodePacket
  split
  · exact .error _
  · refine .ok ?_
    unfold packetRow
    split <;> rfl

theorem decodeWire_answersOperation (f : WireFormat) (b : Bytes) : AnswersOperation (decodeWire f b) := by
  cases f with
  | ctxPayload => exact build_answersOperation_of (fmtRaw_readsOnly 48) b fun _ ha => decide_eq_true ha
  | packet l => exact decodePacket_answersOperation l b
  | _ => exact build_answersOperation _ b fun _ => rfl

/-- CID.DEC and TICK are the operations whose operand its type does not bound; a group has no operands, and the
last case is that of no OPID. -/
theorem decodeOperands_answersOperation (op : Nat) (b : Bytes) : AnswersOperation (decodeOperands op b) := by
  fun_cases decodeOperands
  case case8 => exact build_answersOperation_of (fmtRaw_readsOnly 8) b fun _ ha => decide_eq_true ha
  case case36 => exact build_answersOperation_of fmtTicks_readsOnly b fun _ ha => decide_eq_true ha
  case case17 | case24 | case29 | case30 | case31 | case32 | case33 | case35 | case38 | case41 | case42 | case43 |
      case44 => exact .ok rfl
  case case47 => exact .error _
  all_goals exact build_answersOperation _ b fun _ => rfl

theorem decode_answersOperation (t : Transfer) : AnswersOperation (decode t) := by
  unfold decode
  split
  · unfold decodeCommand
    split
    · exact .error _
    · exact decodeOperands_answersOperation _ _
  · exact decodeWire_answersOperation _ _

end Sys2Proof

namespace Sys2Proof.Machine

/-! ### The step -/

theorem step_of_agenda_nil {s : State} (h : s.agenda = []) :
    step s = perform (Config.schedule s.drawn) { s with drawn := s.drawn + 1 } := by
  obtain ⟨t, rest, ha, -⟩ | ⟨-, hf⟩ := fetch_cases s
  · simp [h] at ha
  · rw [step_eq, hf]
    rfl

theorem step_of_decode_error {s : State} {t : Transfer} {rest : List Transfer} {e : DecodeError}
    (h : s.agenda = t :: rest) (hd : decode t = .error e) : step s = .fault (.noSuchOperation e) := by
  rw [step_eq]
  simp only [State.fetch, h, perform, hd]

/-- A chunk longer than `MAX_CHUNK` is refused wherever a chunk is an operand (U12; log 14). -/
theorem exec_long_chunk_refused {c : Chunk} {s : State} (h : s.params.maxChunk < c.length) :
    exec (.accPush c) s = .refused .chunkTooLong ∧ exec (.srcPush c) s = .refused .chunkTooLong ∧
      exec (.qTryPush (.iq c)) s = .refused .chunkTooLong := by
  have hfit : ¬ s.chunkFits c = true := by simpa [State.chunkFits] using h
  exact ⟨if_neg hfit, if_neg hfit, if_neg hfit⟩

/-- Settles O5: the fetch by its two cases, and the decoder by what its formats read. -/
theorem stepOfAnythingElse : Obligations.StepOfAnythingElse :=
  ⟨fun _ => step_of_agenda_nil, fun _ _ _ _ => step_of_decode_error, decode_answersOperation,
    fun _ _ => exec_long_chunk_refused⟩

end Sys2Proof.Machine
end

section
/-! PROOF. O36: where the spec leaves a value open. The two parts with content are the bytes of the context
payload that no substituted field reaches, and BF.ENC of a record completed with free values. -/

namespace Sys2Proof.Machine

/-! ### The context payload (R19, R182) -/

theorem be_four_getElem? (w : Word) {k : Nat} (hk : k < 4) :
    (be 4 w.toNat)[k]? = some (w.extractLsb' (24 - 8 * k) 8) := by
  have h : ∀ n, BitVec.ofNat 8 (w.toNat >>> n) = w.extractLsb' n 8 := fun _ => rfl
  obtain rfl | rfl | rfl | rfl : k = 0 ∨ k = 1 ∨ k = 2 ∨ k = 3 := by omega
  all_goals simp [be, ← h]

/-- Byte `k` of words written big-endian, one after the other. -/
theorem flatMap_be_getElem? (ws : List Word) {k : Nat} (hk : k < 4 * ws.length) :
    (ws.flatMap fun w => be 4 w.toNat)[k]? = some ((ws.getD (k / 4) 0).extractLsb' (24 - 8 * (k % 4)) 8) := by
  induction ws generalizing k with
  | nil => simp at hk
  | cons w ws ih =>
    rw [List.flatMap_cons]
    by_cases hlt : k < 4
    · rw [List.getElem?_append_left (by simpa using hlt), be_four_getElem? w hlt, Nat.mod_eq_of_lt hlt,
        Nat.div_eq_of_lt hlt]
      rfl
    · obtain ⟨j, rfl⟩ : ∃ j, k = j + 4 := ⟨k - 4, by omega⟩
      rw [List.length_cons] at hk
      rw [List.getElem?_append_right (by simp), be_length, Nat.add_sub_cancel, ih (by omega), Nat.add_mod_right,
        Nat.add_div_right j (by decide)]
      rfl

theorem templateBytes_getElem? (c : Cfg) {k : Nat} (hk : k < 48) :
    c.templateBytes[k]? = some (c.templateByte k) := flatMap_be_getElem? _ (by simpa using hk)

theorem templateBytes_length (c : Cfg) : c.templateBytes.length = 48 := by
  simp [Cfg.templateBytes, List.length_flatMap]

theorem substitute_length (t : Bytes) (off : Nat) (v : Word) (drawn : Nat) :
    (substitute t off v drawn).length = t.length := by
  simp [substitute]

/-- A substitution leaves the bytes outside its four. -/
theorem substitute_getElem?_of_outside (t : Bytes) {off k : Nat} (v : Word) (drawn : Nat)
    (hk : k < off ∨ off + 4 ≤ k) : (substitute t off v drawn)[k]? = t[k]? := by
  have hout : ¬ (off ≤ k ∧ k < off + 4) := by omega
  simp only [substitute, List.getElem?_map, List.getElem?_zipIdx, Option.map_map]
  cases t[k]? <;> simp [hout]

theorem contextPayload_length (s : State) : s.contextPayload.length = 48 := by
  simp only [State.contextPayload, substitute_length, templateBytes_length]

theorem contextPayload_getElem?_of_outside (s : State) {k : Nat} (hk : k < 48)
    (hout : ∀ o ∈ [offBw s.cfg.ctxOff, offFreq s.cfg.ctxOff, offSr s.cfg.ctxOff], k < o ∨ o + 4 ≤ k) :
    s.contextPayload[k]? = some (s.cfg.templateByte k) := by
  simp only [State.contextPayload]
  rw [substitute_getElem?_of_outside _ _ _ (hout _ (by simp)), substitute_getElem?_of_outside _ _ _ (hout _ (by simp)),
    substitute_getElem?_of_outside _ _ _ (hout _ (by simp)), templateBytes_getElem? _ hk]

/-! ### BF.ENC (R90, R92) -/

theorem layoutOk_iff (d : List Descriptor) : layoutOk d = true ↔ IsLayout d := by
  simp [layoutOk, IsLayout]

/-- What BF.ENC places under a descriptor: the value of its name, nothing under a reserved one. -/
def placed (v : Record) (x : Descriptor) : Nat :=
  match x.name with
  | none => 0
  | some n => (recordGet v n).getD 0

theorem valuesFit_iff (d : List Descriptor) (v : Record) :
    valuesFit d v = true ↔ ∀ x ∈ d, placed v x < 2 ^ x.width := by
  simp only [valuesFit, List.all_eq_true, placed]
  refine forall₂_congr fun x _ => ?_
  cases x.name <;> simp

theorem bfInsert_cons (x : Descriptor) (d : List Descriptor) (hi : Nat) (v : Record) (w : Nat) :
    bfInsert (x :: d) hi v w = bfInsert d (hi - x.width) v (w ||| placed v x <<< (hi - x.width)) := by
  simp only [bfInsert, placed]
  cases x.name <;> simp

/-- Placing fields below bit `hi` leaves the bits from there on. -/
theorem bfInsert_shiftRight {d : List Descriptor} {v : Record} (hfit : ∀ x ∈ d, placed v x < 2 ^ x.width)
    {hi : Nat} (hsum : (d.map Descriptor.width).sum ≤ hi) (w : Nat) : bfInsert d hi v w >>> hi = w >>> hi := by
  induction d generalizing hi w with
  | nil => rfl
  | cons x d ih =>
    simp only [List.map_cons, List.sum_cons] at hsum
    simp only [List.forall_mem_cons] at hfit
    obtain ⟨hx, hd⟩ := hfit
    have hsplit : hi = (hi - x.width) + x.width := by omega
    generalize hi - x.width = pos at hsplit
    subst hsplit
    rw [bfInsert_cons, Nat.add_sub_cancel, Nat.shiftRight_add, ih hd (by omega), ← Nat.shiftRight_add,
      Nat.shiftRight_or_distrib, Nat.shiftRight_add (placed v x <<< pos), Nat.shiftLeft_shiftRight,
      Nat.shiftRight_eq_div_pow, Nat.shiftRight_eq_div_pow (placed v x), Nat.div_eq_of_lt hx, Nat.or_zero]

/-- Each field is placed at its own position (R90, R92). -/
theorem bfInsert_field {d : List Descriptor} {v : Record} (hfit : ∀ x ∈ d, placed v x < 2 ^ x.width)
    {hi : Nat} (hsum : (d.map Descriptor.width).sum ≤ hi) {w : Nat} (hw : 2 ^ hi ∣ w) {k : Nat} {x : Descriptor}
    (hx : d[k]? = some x) :
    (bfInsert d hi v w >>> (hi - ((d.take (k + 1)).map Descriptor.width).sum)) % 2 ^ x.width = placed v x := by
  induction d generalizing hi w k with
  | nil => cases hx
  | cons y d ih =>
    simp only [List.map_cons, List.sum_cons] at hsum
    simp only [List.forall_mem_cons] at hfit
    obtain ⟨hy, hd⟩ := hfit
    have hsplit : hi = (hi - y.width) + y.width := by omega
    generalize hi - y.width = pos at hsplit
    subst hsplit
    obtain ⟨q, rfl⟩ := hw
    have hq : 2 ^ (pos + y.width) * q ||| placed v y <<< pos = (2 ^ y.width * q ||| placed v y) <<< pos := by
      rw [Nat.shiftLeft_or_distrib, Nat.shiftLeft_eq (2 ^ y.width * q)]
      ring_nf
    rw [bfInsert_cons, Nat.add_sub_cancel, hq]
    cases k with
    | zero =>
      obtain rfl : y = x := by simpa using hx
      simp only [List.take_succ_cons, List.take_zero, List.map_cons, List.map_nil, List.sum_cons, List.sum_nil,
        Nat.add_zero, Nat.add_sub_cancel]
      rw [bfInsert_shiftRight hd (by omega), Nat.shiftLeft_shiftRight, Nat.or_mod_two_pow, Nat.mul_mod_right,
        Nat.zero_or, Nat.mod_eq_of_lt hy]
    | succ k =>
      have hpos : pos + y.width - (((y :: d).take (k + 1 + 1)).map Descriptor.width).sum =
          pos - ((d.take (k + 1)).map Descriptor.width).sum := by
        simp only [List.take_succ_cons, List.map_cons, List.sum_cons]
        omega
      rw [hpos]
      exact ih hd (by omega) ⟨_, (Nat.shiftLeft_eq _ _).trans (Nat.mul_comm _ _)⟩ (by simpa using hx)

/-- BF.ENC of values that fit (R92). -/
theorem bfEnc_of_fit {d : List Descriptor} {v : Record} (hd : IsLayout d)
    (hfit : ∀ x ∈ d, placed v x < 2 ^ x.width) : ∃ w : Word, bfEnc d v = .ok w ∧
      ∀ k x, d[k]? = some x → (w.toNat >>> fieldPos d k) % 2 ^ x.width = placed v x := by
  have hsum : (d.map Descriptor.width).sum ≤ 32 := hd.2.le
  have hlt : bfInsert d 32 v 0 < 2 ^ 32 := by
    have h := bfInsert_shiftRight hfit hsum 0
    rw [Nat.zero_shiftRight, Nat.shiftRight_eq_div_pow, Nat.div_eq_zero_iff] at h
    exact h.resolve_left (by decide)
  refine ⟨BitVec.ofNat 32 (bfInsert d 32 v 0), ?_, fun k x hx => ?_⟩
  · rw [bfEnc, if_pos ((layoutOk_iff d).mpr hd), if_pos ((valuesFit_iff d v).mpr hfit)]
  · rw [BitVec.toNat_ofNat, Nat.mod_eq_of_lt hlt]
    exact bfInsert_field hfit hsum (dvd_zero _) hx

theorem bfEnc_of_not_layout {d : List Descriptor} (v : Record) (hd : ¬ IsLayout d) :
    bfEnc d v = .error .bfDesc := by
  rw [bfEnc, if_neg (mt (layoutOk_iff d).mp hd)]

theorem bfEnc_of_too_wide {d : List Descriptor} {v : Record} (hd : IsLayout d)
    (hwide : ∃ x ∈ d, 2 ^ x.width ≤ placed v x) : bfEnc d v = .error .fieldRange := by
  obtain ⟨x, hx, hw⟩ := hwide
  have hfit : ¬ valuesFit d v = true := fun h => ((valuesFit_iff d v).mp h x hx).not_ge hw
  rw [bfEnc, if_pos ((layoutOk_iff d).mpr hd), if_neg hfit]

/-! ### A record completed with free values (log 23) -/

theorem recordGet_append (v w : Record) (n : FieldName) :
    recordGet (v ++ w) n = (recordGet v n).or (recordGet w n) := by
  induction v with
  | nil => rfl
  | cons e v ih =>
    simp only [List.cons_append, recordGet]
    split
    · rfl
    · exact ih

/-- A name's free value, one for each name. -/
theorem recordGet_free {d : List Descriptor} (free : FieldName → Nat) {x : Descriptor} {n : FieldName} (hx : x ∈ d)
    (hn : x.name = some n) :
    recordGet (d.filterMap fun x => x.name.map fun n => (n, free n)) n = some (free n) := by
  induction d with
  | nil => cases hx
  | cons y d ih =>
    cases hy : y.name with
    | none =>
      have hne : x ≠ y := by
        rintro rfl
        simp [hn] at hy
      simpa [hy] using ih (List.mem_of_ne_of_mem hne hx)
    | some m =>
      by_cases hm : m = n
      · simp [hy, recordGet, hm]
      · have hne : x ≠ y := by
          rintro rfl
          exact hm (Option.some.inj (hy.symm.trans hn))
        simpa [hy, recordGet, hm] using ih (List.mem_of_ne_of_mem hne hx)

/-- A named descriptor's value in the completed record: its own, or else the free one. -/
theorem recordGet_completeRecord {d : List Descriptor} (v : Record) (drawn : Nat) {x : Descriptor} {n : FieldName}
    (hx : x ∈ d) (hn : x.name = some n) : recordGet (completeRecord d v drawn) n =
      some ((recordGet v n).getD (fitNamed d n (Config.missingFieldValue drawn n))) := by
  rw [completeRecord, recordGet_append, recordGet_free _ hx hn]
  cases recordGet v n <;> rfl

theorem fitNamed_cons (x : Descriptor) (d : List Descriptor) (n : FieldName) (a : Nat) :
    fitNamed (x :: d) n a = fitNamed d n (if x.name = some n then a % 2 ^ x.width else a) := rfl

theorem fitNamed_le (d : List Descriptor) (n : FieldName) (a : Nat) : fitNamed d n a ≤ a := by
  induction d generalizing a with
  | nil => exact le_rfl
  | cons x d ih =>
    rw [fitNamed_cons]
    refine (ih _).trans ?_
    split
    · exact Nat.mod_le _ _
    · exact le_rfl

/-- A free value fits every field of its name. -/
theorem fitNamed_lt {d : List Descriptor} {n : FieldName} {x : Descriptor} (hx : x ∈ d) (hn : x.name = some n)
    (a : Nat) : fitNamed d n a < 2 ^ x.width := by
  induction d generalizing a with
  | nil => cases hx
  | cons y d ih =>
    obtain rfl | hx := List.mem_cons.mp hx
    · rw [fitNamed_cons, if_pos hn]
      exact (fitNamed_le d n _).trans_lt (Nat.mod_lt _ (by positivity))
    · exact ih hx _

theorem placed_completeRecord_of_some {d : List Descriptor} {v : Record} (drawn : Nat) {x : Descriptor}
    {n : FieldName} {a : Nat} (hx : x ∈ d) (hn : x.name = some n) (ha : recordGet v n = some a) :
    placed (completeRecord d v drawn) x = a := by
  simp only [placed, hn, recordGet_completeRecord v drawn hx hn, ha, Option.getD_some]

/-- If the record's own values fit, the completed record's do. -/
theorem placed_completeRecord_lt {d : List Descriptor} {v : Record} (drawn : Nat) {x : Descriptor} (hx : x ∈ d)
    (hown : ∀ n a, x.name = some n → recordGet v n = some a → a < 2 ^ x.width) :
    placed (completeRecord d v drawn) x < 2 ^ x.width := by
  cases hn : x.name with
  | none =>
    simp only [placed, hn]
    positivity
  | some n =>
    simp only [placed, hn, recordGet_completeRecord v drawn hx hn, Option.getD_some]
    cases ha : recordGet v n with
    | none => exact fitNamed_lt hx hn _
    | some a => exact hown n a hn ha

theorem exec_bfEnc_incomplete {d : List Descriptor} {v : Record} (s : State) (hc : recordCovers d v = false) :
    exec (.bfEnc d v) s = .next { s with
      drawn := s.drawn + 1, out := resultOf .word (bfEnc d (completeRecord d v s.drawn)) } := by
  obtain ⟨ht, -⟩ | ⟨-, h⟩ := execBfEnc_cases d v s
  · simp [hc] at ht
  · exact h

/-- Settles O36: the operations by their meanings, CTX.PAYLOAD by the bytes that no substitution reaches, BF.ENC by
the completed record. -/
theorem openValuesStillComplete : Obligations.OpenValuesStillComplete := by
  intro s
  refine ⟨fun p hp => ⟨_, if_neg hp⟩, fun _ => ⟨fun k => ⟨_, rfl⟩, fun blk => ⟨_, rfl⟩⟩,
    ⟨s.contextPayload, rfl, contextPayload_length s, fun k => contextPayload_getElem?_of_outside s⟩,
    fun b => ⟨_, _, _, _, rfl⟩, fun n => ⟨_, rfl⟩, ?_⟩
  intro d v hc tooWide
  rw [exec_bfEnc_incomplete s hc]
  refine ⟨fun hd => ?_, fun hd => ?_, fun hd hfit => ?_⟩
  · rw [bfEnc_of_not_layout _ hd]
    rfl
  · rintro ⟨x, hx, n, a, hn, ha, hwide⟩
    rw [bfEnc_of_too_wide hd ⟨x, hx, (placed_completeRecord_of_some s.drawn hx hn ha).symm ▸ hwide⟩]
    rfl
  · obtain ⟨w, hw, hplaced⟩ := bfEnc_of_fit hd fun x hx => placed_completeRecord_lt s.drawn hx fun n a hn ha =>
      not_le.mp fun hwide => hfit ⟨x, hx, n, a, hn, ha, hwide⟩
    rw [hw]
    refine ⟨w, rfl, fun k x hk => ⟨fun hn => ?_, fun n a hn ha => ?_⟩⟩
    · rw [hplaced k x hk, placed, hn]
    · rw [hplaced k x hk]
      exact placed_completeRecord_of_some s.drawn (List.mem_of_getElem? hk) hn ha

end Sys2Proof.Machine
end

section
/-! PROOF. O1, O2 and O3: the encoding. A command is read back by its operand format, a wire word by its fields, a
packet by its Header word. -/

namespace Sys2Proof

/-! ### Wire words: the fields laid side by side are the fields read (R60 to R62) -/

/-- Header words read back: a field that has others below it is the low end of what is left above them. -/
theorem readHeader_headerWord (l : Layout) (h : Header) : readHeader l (headerWord l h) = h := by
  obtain ⟨pt, cid, trl, tsm, tsi, tsf, count, size⟩ := h
  cases l with
  | vita =>
    simp only [readHeader, headerWord, Header.mk.injEq, BitVec.getLsbD_append]
    refine ⟨?_, by simp, by simp, by simp, ?_, ?_, ?_, ?_⟩ <;>
      repeat rw [BitVec.extractLsb'_append_eq_of_le (by decide)]
    · exact BitVec.extractLsb'_eq_self
    all_goals exact BitVec.extractLsb'_append_eq_right
  | listed =>
    simp only [readHeader, headerWord, Header.mk.injEq, BitVec.getLsbD_append]
    refine ⟨BitVec.extractLsb'_append_eq_right, by simp, by simp, by simp, ?_, ?_, ?_, ?_⟩ <;>
      repeat rw [BitVec.extractLsb'_append_eq_of_le (by decide)]
    on_goal 4 => exact BitVec.extractLsb'_eq_self
    all_goals exact BitVec.extractLsb'_append_eq_right

/-- The four fields of a Trailer word under `VITA`. -/
theorem trailerVita_fields (e i : BitVec 12) (x : Bool) (c : BitVec 7) :
    let w : Word := e ++ i ++ BitVec.ofBool x ++ c
    w.extractLsb' 20 12 = e ∧ w.extractLsb' 8 12 = i ∧ w.getLsbD 7 = x ∧ w.extractLsb' 0 7 = c := by
  simp only [BitVec.getLsbD_append]
  refine ⟨?_, ?_, by simp, BitVec.extractLsb'_append_eq_right⟩ <;>
    repeat rw [BitVec.extractLsb'_append_eq_of_le (by decide)]
  · exact BitVec.extractLsb'_eq_self
  · exact BitVec.extractLsb'_append_eq_right

/-- The four fields of a Trailer word under `LISTED`. -/
theorem trailerListed_fields (e i : BitVec 12) (x : Bool) (c : BitVec 7) :
    let w : Word := c ++ BitVec.ofBool x ++ i ++ e
    w.extractLsb' 0 12 = e ∧ w.extractLsb' 12 12 = i ∧ w.getLsbD 24 = x ∧ w.extractLsb' 25 7 = c := by
  simp only [BitVec.getLsbD_append]
  refine ⟨BitVec.extractLsb'_append_eq_right, ?_, by simp, ?_⟩ <;>
    repeat rw [BitVec.extractLsb'_append_eq_of_le (by decide)]
  · exact BitVec.extractLsb'_append_eq_right
  · exact BitVec.extractLsb'_eq_self

/-! ### The decoder on what the encoder writes -/

/-- `build_readsBack` where the instruction is put together from parts of the operand. -/
theorem build_put {α : Type} {f : OperandFormat α} {ok : α → Prop} (hf : f.ReadsBack ok) {mk : α → Instr}
    {a : α} {i : Instr} (ha : ok a) (hi : mk a = i) : build f (f.put a) mk = .ok i :=
  hi ▸ build_readsBack hf mk a ha

theorem fmtTsEnc_readsBack : fmtTsEnc.ReadsBack (fun _ => True) :=
  (fmtPair_readsBack fmtNum_readsBack (fmtPair_readsBack (fmtBits_readsBack 2 1 (by norm_num))
    (fmtBits_readsBack 2 1 (by norm_num)))).weaken fun _ _ => by simp

theorem fmtTsDec_readsBack : fmtTsDec.ReadsBack (fun _ => True) :=
  (fmtPair_readsBack (fmtOption_readsBack fmtWord_readsBack)
    (fmtOption_readsBack (fmtBits_readsBack 64 8 (by norm_num)))).weaken fun _ _ => by simp

/-- A packet of any type reads back: its Header word gives the row and the fields, the rest is its body. -/
theorem decode_packetTransfer (pt : BitVec 4) (p : WirePacket) :
    decode (packetTransfer pt p) = .ok (packetRow pt p) := by
  have hword : (fmtNat 4).get (p.bytes pt) = .ok ((headerWord p.layout (p.header pt)).toNat, p.body) :=
    fmtNat_readsBack 4 _ _ (headerWord p.layout (p.header pt)).isLt
  show decodePacket p.layout (p.bytes pt) = _
  simp only [decodePacket, hword, BitVec.ofNat_toNat, BitVec.setWidth_eq, readHeader_headerWord]
  rfl

/-- Settles O1: an operation without operands is its OPID, one with operands is read back by its format; a word's
fields are those it was put together from, and a packet's are its Header word's. -/
theorem decodeInvertsEncode : Obligations.DecodeInvertsEncode := by
  intro i hi
  cases i with
  | accEmit | ctxPayload | stop | pLoad | pEmit | oFetch | oSend | cExit | snkPop | reset | pStop | oStop |
      cStop => rfl
  | bfDec d w =>
    exact build_readsBack (fmtPair_readsBack fmtLayout_readsBack fmtWord_readsBack) _ (d, w) ⟨trivial, trivial⟩
  | bfEnc d v =>
    exact build_readsBack (fmtPair_readsBack fmtLayout_readsBack fmtRecord_readsBack) _ (d, v) ⟨trivial, trivial⟩
  | tsEnc ts tsi tsf =>
    exact build_readsBack fmtTsEnc_readsBack (fun a => .tsEnc a.1 a.2.1 a.2.2) (ts, tsi, tsf) trivial
  | tsDec sec frac => exact build_readsBack fmtTsDec_readsBack _ (sec, frac) trivial
  | rlCall l op => exact build_readsBack fmtCall_readsBack _ ⟨l, op⟩ trivial
  | cidDec => exact build_readsBack (fmtRaw_readsBack 8) _ _ (of_decide_eq_true hi)
  | tick n => exact build_readsBack fmtTicks_readsBack .tick n (of_decide_eq_true hi)
  | hdrDec | trlDec => exact build_readsBack fmtWord_readsBack _ _ trivial
  | hdrEnc => exact build_readsBack fmtHeader_readsBack _ _ trivial
  | trlEnc => exact build_readsBack fmtTrailer_readsBack _ _ trivial
  | cidEnc => exact build_readsBack fmtClassId_readsBack _ _ trivial
  | pktSize | pktEnc => exact build_readsBack fmtPacket_readsBack _ _ trivial
  | pktDec | unpack12 | hostDec => exact build_readsBack fmtBytes_readsBack _ _ trivial
  | pack12 | accPush | frameData | srcPush => exact build_readsBack fmtChunk_readsBack _ _ trivial
  | rlDue | rlMark => exact build_readsBack fmtLimiter_readsBack _ _ trivial
  | mtrObs n => exact build_readsBack fmtNum_readsBack .mtrObs n trivial
  | tsBlock => exact build_readsBack (fmtBits_readsBack 64 8 (by norm_num)) _ _ trivial
  | frameCtx | start | cEmit => exact build_readsBack fmtTod_readsBack _ _ trivial
  | qTryPush => exact build_readsBack fmtItem_readsBack _ _ trivial
  | qPop => exact build_readsBack fmtQueue_readsBack _ _ trivial
  | stageFault => exact build_readsBack fmtStage_readsBack _ _ trivial
  | cfgWrite => exact build_readsBack fmtAssign_readsBack _ _ trivial
  | regRead => exact build_readsBack fmtReg_readsBack _ _ trivial
  | wordStreamId | wordTsInt => exact build_readsBack fmtWord_readsBack _ _ trivial
  | wordHeaderVita h =>
    exact build_put fmtWord_readsBack trivial (congrArg Instr.wordHeaderVita (readHeader_headerWord .vita h))
  | wordHeaderListed h =>
    exact build_put fmtWord_readsBack trivial (congrArg Instr.wordHeaderListed (readHeader_headerWord .listed h))
  | wordTrailerVita e j x c =>
    obtain ⟨he, hj, hx, hc⟩ := trailerVita_fields e j x c
    exact build_put fmtWord_readsBack trivial (by rw [he, hj, hx, hc])
  | wordTrailerListed e j x c =>
    obtain ⟨he, hj, hx, hc⟩ := trailerListed_fields e j x c
    exact build_put fmtWord_readsBack trivial (by rw [he, hj, hx, hc])
  | wordClassId1 =>
    exact build_put fmtWord_readsBack trivial (congrArg Instr.wordClassId1 BitVec.extractLsb'_append_eq_right)
  | wordClassId2 =>
    exact build_put fmtWord_readsBack trivial
      (congrArg₂ Instr.wordClassId2 BitVec.extractLsb'_append_eq_left BitVec.extractLsb'_append_eq_right)
  | fieldTsFrac => exact build_readsBack (fmtBits_readsBack 64 8 (by norm_num)) _ _ trivial
  | fieldTriplet =>
    exact build_put (fmtBits_readsBack 24 3 (by norm_num)) trivial
      (congrArg₂ Instr.fieldTriplet BitVec.extractLsb'_append_eq_left BitVec.extractLsb'_append_eq_right)
  | fieldCtxPayload => exact build_readsBack (fmtRaw_readsBack 48) _ _ (of_decide_eq_true hi)
  | pktPtData | pktPtDataWithId | pktPtExtData | pktPtExtDataWithId | pktPtContext | pktPtExtContext | pktUnnamed6 |
      pktUnnamed7 | pktUnnamed8 | pktUnnamed9 | pktUnnamed10 | pktUnnamed11 | pktUnnamed12 | pktUnnamed13 |
      pktUnnamed14 | pktUnnamed15 => exact decode_packetTransfer _ _

/-! ### The identifier a command leads with (R77) -/

/-- What the decoder answers, if anything, has the identifier `op`. -/
def AnswersOpid (op : Byte) (r : Except DecodeError Instr) : Prop := ∀ i, r = .ok i → opid i = some op

theorem AnswersOpid.ok {op : Byte} {i : Instr} (h : opid i = some op) : AnswersOpid op (.ok i) := by
  rintro _ ⟨⟩
  exact h

theorem AnswersOpid.error (op : Byte) (e : DecodeError) : AnswersOpid op (.error e) :=
  fun _ h => nomatch h

theorem build_answersOpid {α : Type} (f : OperandFormat α) (b : Bytes) {mk : α → Instr} {op : Byte}
    (hmk : ∀ a, opid (mk a) = some op) : AnswersOpid op (build f b mk) := by
  unfold build
  split
  · exact .error _ _
  · exact .ok (hmk _)

/-- The grouped cases are the operations without operands; `case47` is a byte that is no OPID. -/
theorem decodeOperands_answersOpid (op : Nat) (b : Bytes) :
    AnswersOpid (BitVec.ofNat 8 op) (decodeOperands op b) := by
  fun_cases decodeOperands
  case case17 | case24 | case29 | case30 | case31 | case32 | case33 | case35 | case38 | case41 | case42 | case43 |
      case44 => exact .ok rfl
  case case47 => exact .error _ _
  all_goals exact build_answersOpid _ b fun _ => rfl

/-- Settles O2: no command is empty, and its first byte selects the operands. -/
theorem commandLeadsWithOpid : Obligations.CommandLeadsWithOpid := by
  intro b i h
  cases b with
  | nil => cases h
  | cons op rest => exact ⟨op, rest, rfl, by simpa using decodeOperands_answersOpid op.toNat rest i h⟩

/-- Settles O3: ten closed words, each decoded by computation. -/
theorem specWordsDecode : Obligations.SpecWordsDecode :=
  ⟨rfl, rfl, rfl, rfl, rfl, rfl, rfl, rfl, rfl, rfl⟩

end Sys2Proof
end

section
/-! PROOF. O52 and O53: what a wire word, field or packet decodes to, and what reading it answers. The fields that
BF.DEC takes out of a word are the word's bits at the rules' positions. -/

namespace Sys2Proof.Machine

/-! ### Header and Trailer words: BF.DEC's fields are bits of the word (R60 to R62, R91) -/

/-- A field that BF.DEC masked out of a word at `pos` is the word's bits from `pos` on. -/
theorem fieldOf_eq_extractLsb' {v : Record} {n : FieldName} {w : Word} {m pos : Nat}
    (h : recordGet v n = some ((w.toNat >>> pos) &&& (2 ^ m - 1))) : fieldOf m v n = w.extractLsb' pos m := by
  rw [fieldOf, h, Option.getD_some, Nat.and_two_pow_sub_one_eq_mod]
  refine BitVec.eq_of_toNat_eq ?_
  rw [BitVec.toNat_ofNat, Nat.mod_mod, BitVec.extractLsb'_toNat]

theorem flagOf_eq_getLsbD {v : Record} {n : FieldName} {w : Word} {pos : Nat}
    (h : recordGet v n = some ((w.toNat >>> pos) &&& (2 ^ 1 - 1))) : flagOf v n = w.getLsbD pos := by
  have hbit : w.extractLsb' pos 1 = BitVec.ofBool (w.getLsbD pos) := by
    refine BitVec.eq_of_getLsbD_eq fun j hj => ?_
    obtain rfl : j = 0 := by omega
    simp
  rw [flagOf, fieldOf_eq_extractLsb' h, hbit]
  cases w.getLsbD pos <;> rfl

/-- HDR.DEC reads the fields at the bit positions of R60 and R61. -/
theorem readHeader_eq_hdrDec (l : Layout) (w : Word) : readHeader l w = hdrDec l w := by
  cases l <;> simp only [readHeader, hdrDec, headerOfRecord, Header.mk.injEq] <;>
    exact ⟨(fieldOf_eq_extractLsb' rfl).symm, (flagOf_eq_getLsbD rfl).symm, (flagOf_eq_getLsbD rfl).symm,
      (flagOf_eq_getLsbD rfl).symm, (fieldOf_eq_extractLsb' rfl).symm, (fieldOf_eq_extractLsb' rfl).symm,
      (fieldOf_eq_extractLsb' rfl).symm, (fieldOf_eq_extractLsb' rfl).symm⟩

theorem trlDec_vita (w : Word) : trlDec .vita w =
    trailerOfFields (w.extractLsb' 20 12) (w.extractLsb' 8 12) (w.getLsbD 7) (w.extractLsb' 0 7) := by
  refine congr (congr (congrArg₂ trailerOfFields ?_ ?_) ?_) ?_
  exacts [fieldOf_eq_extractLsb' rfl, fieldOf_eq_extractLsb' rfl, flagOf_eq_getLsbD rfl, fieldOf_eq_extractLsb' rfl]

theorem trlDec_listed (w : Word) : trlDec .listed w =
    trailerOfFields (w.extractLsb' 0 12) (w.extractLsb' 12 12) (w.getLsbD 24) (w.extractLsb' 25 7) := by
  refine congr (congr (congrArg₂ trailerOfFields ?_ ?_) ?_) ?_
  exacts [fieldOf_eq_extractLsb' rfl, fieldOf_eq_extractLsb' rfl, flagOf_eq_getLsbD rfl, fieldOf_eq_extractLsb' rfl]

/-- What BF.ENC places under a Header's descriptors is the word with the fields side by side. -/
theorem bfInsert_headerRecord (l : Layout) (h : Header) :
    bfInsert (headerLayout l) 32 (headerRecord h) 0 = (headerWord l h).toNat := by
  cases l <;>
    simp only [headerWord, BitVec.toNat_append, BitVec.toNat_ofBool, Nat.shiftLeft_or_distrib,
      ← Nat.shiftLeft_add] <;>
    simp [headerLayout, headerRecord, bfInsert, recordGet, nmPacketType, nmHasClassId, nmHasTrailer, nmTsm, nmTsi,
      nmTsf, nmCount, nmSize]

theorem hdrEnc_eq_headerWord (l : Layout) (h : Header) : hdrEnc l h = headerWord l h := by
  rw [hdrEnc, bfInsert_headerRecord, BitVec.ofNat_toNat, BitVec.setWidth_eq]

/-! ### Packets (R63, R120) -/

/-- A wire packet's bytes are the Header word that HDR.ENC makes of its fields, and its body. -/
theorem WirePacket.bytes_eq (pt : BitVec 4) (p : WirePacket) :
    p.bytes pt = be 4 (hdrEnc p.layout (p.header pt)).toNat ++ p.body := by
  rw [hdrEnc_eq_headerWord]
  rfl

/-- Settles O53: each row's meaning reads the packet of its type. -/
theorem wirePacketsDecode : Obligations.WirePacketsDecode := by
  refine ⟨readHeader_eq_hdrDec, fun p s => ?_⟩
  intro decoded read
  have h : ∀ pt, readPacket pt p s = read pt := fun pt => by
    simp only [readPacket, WirePacket.bytes_eq, WirePacket.header, read, decoded]
    cases pktDec p.layout _ <;> rfl
  exact ⟨h 0, h 1, h 2, h 3, h 4, h 5, h 6, h 7, h 8, h 9, h 10, h 11, h 12, h 13, h 14, h 15⟩

/-! ### A context payload (R72, R182) -/

/-- A substituted field inside the 48 bytes is read off them. -/
theorem payloadField_eq {b : Bytes} (hb : b.length = 48) (drawn : Nat) {off : Nat} (hoff : off ≤ 44) :
    payloadField b drawn off = BitVec.ofNat 32 (ube (slice b off 4)) := by
  have hbytes : ((List.range 4).map fun j => payloadByte b drawn (off + j)) = slice b off 4 := by
    refine List.ext_getElem (by simp [slice]; omega) fun j hj _ => ?_
    have hj4 : off + j < 48 := by simp at hj; omega
    simp [payloadByte, hj4, slice, hb]
  rw [payloadField, hbytes]

theorem inSubstituted_eq_false {o : Word} {k : Nat} :
    inSubstituted o k = false ↔ ∀ a ∈ [offBw o, offFreq o, offSr o], k < a ∨ a + 4 ≤ k := by
  simp only [inSubstituted, List.any_eq_false, Bool.and_eq_true, decide_eq_true_eq]
  exact forall₂_congr fun a _ => by omega

theorem matchesTemplate_iff (c : Cfg) {b : Bytes} (hb : b.length = 48) : matchesTemplate c b = true ↔
    ∀ k, k < 48 → (∀ a ∈ [offBw c.ctxOff, offFreq c.ctxOff, offSr c.ctxOff], k < a ∨ a + 4 ≤ k) →
      b[k]? = some (c.templateByte k) := by
  simp only [matchesTemplate, List.all_eq_true, List.mem_range, Bool.or_eq_true, beq_iff_eq]
  refine forall₂_congr fun k hk => ?_
  have hbyte : b.getD k 0 = c.templateBytes.getD k 0 ↔ b[k]? = some (c.templateByte k) := by
    rw [List.getD_eq_getElem?_getD, List.getD_eq_getElem?_getD, templateBytes_getElem? c hk,
      List.getElem?_eq_getElem (by omega : k < b.length)]
    simp
  rw [hbyte, ← inSubstituted_eq_false]
  cases inSubstituted c.ctxOff k <;> simp

theorem exec_fieldCtxPayload {b : Bytes} (hb : b.length = 48) {s : State} (ho : OffsetsLegal s.cfg.ctxOff) :
    exec (.fieldCtxPayload b) s = .next { s with
      drawn := s.drawn + 1
      out := .ctxFields (BitVec.ofNat 32 (ube (slice b (offBw s.cfg.ctxOff) 4)))
        (BitVec.ofNat 32 (ube (slice b (offFreq s.cfg.ctxOff) 4)))
        (BitVec.ofNat 32 (ube (slice b (offSr s.cfg.ctxOff) 4))) (matchesTemplate s.cfg b) } := by
  obtain ⟨⟨hbw, hfreq, hsr⟩, -⟩ := ho
  rw [← payloadField_eq hb s.drawn hbw, ← payloadField_eq hb s.drawn hfreq, ← payloadField_eq hb s.drawn hsr]
  rfl

/-! ### Words and fields decoded -/

theorem build_word (w : Word) (mk : Word → Instr) : build fmtWord (be 4 w.toNat) mk = .ok (mk w) :=
  build_readsBack fmtWord_readsBack mk w trivial

/-- Three bytes are a triplet of two 12-bit values, the first in the high half (R69). -/
theorem decode_triplet (b0 b1 b2 : Byte) : decode ⟨.wire .triplet, [b0, b1, b2]⟩ =
    .ok (.fieldTriplet (b0 ++ b1.extractLsb' 4 4) (b1.extractLsb' 0 4 ++ b2)) := by
  have hube : ube [b0, b1, b2] = (b0 ++ b1 ++ b2).toNat := by
    rw [BitVec.toNat_append, BitVec.toNat_append, ← Nat.shiftLeft_add_eq_or_of_lt b1.isLt,
      ← Nat.shiftLeft_add_eq_or_of_lt b2.isLt, Nat.shiftLeft_eq, Nat.shiftLeft_eq]
    simp [ube]
  have hbytes : [b0, b1, b2] = (fmtBits 24 3).put (b0 ++ b1 ++ b2) :=
    (be_ube [b0, b1, b2]).symm.trans (congrArg (be 3) hube)
  rw [hbytes]
  refine build_put (fmtBits_readsBack 24 3 (by norm_num)) trivial (congrArg₂ Instr.fieldTriplet ?first ?second)
  case first =>
    rw [BitVec.extractLsb'_append_eq_of_le (by decide), BitVec.extractLsb'_append_eq_ite, dif_pos (by decide),
      dif_neg (by decide)]
    exact congrArg (· ++ b1.extractLsb' 4 4) BitVec.extractLsb'_eq_self
  case second =>
    rw [BitVec.extractLsb'_append_eq_ite, dif_pos (by decide), dif_neg (by decide),
      BitVec.extractLsb'_append_eq_of_add_le (by decide)]
    exact congrArg (b1.extractLsb' 0 4 ++ ·) BitVec.extractLsb'_eq_self

/-- Settles O52: the decoder by its formats, the readings by their meanings. -/
theorem wireWordsRead : Obligations.WireWordsRead := by
  refine ⟨fun w => ?_, fun f => build_readsBack (fmtBits_readsBack 64 8 (by norm_num)) _ f trivial, decode_triplet,
    fun b hb => build_readsBack (fmtRaw_readsBack 48) _ b hb, fun s => ?_⟩
  · exact ⟨build_word w _, build_word w _, build_word w _, trlDec_vita w, build_word w _, trlDec_listed w,
      build_word w _, build_word w _, build_word w _, build_word w _⟩
  · exact ⟨fun _ => rfl, fun _ => rfl, fun _ _ _ _ => rfl, fun _ _ _ _ => rfl, fun _ => rfl, fun _ => rfl,
      fun _ _ => rfl, fun _ => rfl, fun _ => rfl, fun _ _ => rfl,
      fun b hb ho => ⟨matchesTemplate s.cfg b, exec_fieldCtxPayload hb ho, matchesTemplate_iff s.cfg hb⟩⟩

end Sys2Proof.Machine
end

section
/-! PROOF. O18: the fields of a packet that PKT.DEC accepts. Only the class identifier and the timestamp are read
otherwise than R68 says it: the identifier from its two words, the timestamp through TS.DEC. -/

namespace Sys2Proof.Machine

/-- The Header's fields in bytes (R68). -/
theorem four_mul_prefixWords (pt : BitVec 4) (c : Bool) (tsi tsf : BitVec 2) : 4 * prefixWords pt c tsi tsf =
    4 + (if pt = Config.ptDataWithId then 4 else 0) + (if c = true then 8 else 0)
      + (if tsi ≠ Config.tsiNone then 4 else 0) + (if tsf ≠ Config.tsfNone then 8 else 0) := by
  simp only [prefixWords, Nat.mul_add, mul_ite, Nat.mul_zero, Nat.mul_one, Nat.reduceMul]

/-- Bytes that PKT.DEC accepts are read by `pktFields`, and they are long enough for the Header's fields and the
trailer (R120). -/
theorem pktDec_eq_ok {l : Layout} {b : Bytes} {p : Packet} (hp : pktDec l b = .ok p) : p = pktFields l b ∧
    let h := hdrDec l (BitVec.ofNat 32 (ube (slice b 0 4)))
    4 * prefixWords h.packetType h.hasClassId h.tsi h.tsf + 4 * h.hasTrailer.toNat ≤ b.length := by
  unfold pktDec at hp
  split at hp
  · cases hp
  · next hnone =>
    refine ⟨(Except.ok.inj hp).symm, ?_⟩
    simp only [pktDecError] at hnone
    split_ifs at hnone with hshort hragged hsize htruncated
    show 4 * prefixWords _ _ _ _ + _ ≤ _
    omega

theorem slice_slice {b : Bytes} {off n i m : Nat} (h : i + m ≤ n) :
    slice (slice b off n) i m = slice b (off + i) m := by
  simp only [slice, List.drop_take, List.take_take, List.drop_drop]
  congr 1
  omega

theorem slice_length {b : Bytes} {off n : Nat} (h : off + n ≤ b.length) : (slice b off n).length = n := by
  simp [slice]
  omega

theorem ube_slice_lt (b : Bytes) (off n : Nat) : ube (slice b off n) < 256 ^ n :=
  (ube_lt _).trans_le (Nat.pow_le_pow_right (by decide) (List.length_take_le _ _))

/-- Three bytes behind a padding byte (R65, R111). -/
theorem oui_of_slice {b : Bytes} {off : Nat} (h : off + 4 ≤ b.length) :
    BitVec.ofNat 24 (ube (slice b off 4) &&& 0xFFFFFF) = BitVec.ofNat 24 (ube (slice b (off + 1) 3)) := by
  have hcons : slice b off 4 = b[off] :: slice b (off + 1) 3 := by
    rw [slice, List.drop_eq_getElem_cons (by omega), List.take_succ_cons]
    rfl
  have hlen : (slice b (off + 1) 3).length = 3 := slice_length (by omega)
  refine BitVec.eq_of_toNat_eq ?_
  rw [hcons, ube_cons, hlen, BitVec.toNat_ofNat, BitVec.toNat_ofNat,
    Nat.and_two_pow_sub_one_eq_mod _ 24]
  omega

theorem cidDec_slice {b : Bytes} {off : Nat} (h : off + 8 ≤ b.length) : cidDec (slice b off 8) =
    ⟨BitVec.ofNat 24 (ube (slice b (off + 1) 3)), BitVec.ofNat 16 (ube (slice b (off + 4) 2)),
      BitVec.ofNat 16 (ube (slice b (off + 6) 2))⟩ := by
  rw [cidDec, slice_slice (by decide), slice_slice (by decide), slice_slice (by decide), Nat.add_zero,
    oui_of_slice (by omega)]

/-- The timestamp from its optional parts, seconds and picoseconds (R113). -/
theorem tsDec_slices (b : Bytes) (tsi tsf : BitVec 2) (oSec oFrac : Nat) :
    tsDec (if tsi ≠ Config.tsiNone then some (BitVec.ofNat 32 (ube (slice b oSec 4))) else none)
        (if tsf ≠ Config.tsfNone then some (BitVec.ofNat 64 (ube (slice b oFrac 8))) else none) =
      if (if tsi = 0 then 0 else 1) = 0 ∧ (if tsf = 0 then 0 else 1) = 0 then none else
        some ((if (if tsi = 0 then 0 else 1) = 1 then ube (slice b oSec 4) * 10 ^ 12 else 0)
          + (if (if tsf = 0 then 0 else 1) = 1 then ube (slice b oFrac 8) else 0)) := by
  have hsec : (BitVec.ofNat 32 (ube (slice b oSec 4))).toNat = ube (slice b oSec 4) :=
    Nat.mod_eq_of_lt (ube_slice_lt b oSec 4)
  have hfrac : (BitVec.ofNat 64 (ube (slice b oFrac 8))).toNat = ube (slice b oFrac 8) :=
    Nat.mod_eq_of_lt (ube_slice_lt b oFrac 8)
  by_cases hi : tsi = 0#2 <;> by_cases hf : tsf = 0#2 <;>
    simp [hi, hf, tsDec, hsec, hfrac, picos, Config.tsiNone, Config.tsfNone]

/-! ### An optional field's length is its length times its flag -/

theorem ite_toNat_eq_one {α : Type} (c : Bool) (x y : α) :
    (if c.toNat = 1 then x else y) = if c = true then x else y := by
  cases c <;> rfl

theorem ite_eq_mul_toNat (n : Nat) (c : Bool) : (if c = true then n else 0) = n * c.toNat := by
  cases c <;> simp

theorem ite_ne_zero_eq_mul (n : Nat) (kind : BitVec 2) :
    (if kind ≠ 0 then n else 0) = n * (if kind = 0 then 0 else 1) := by
  rw [ite_not, mul_ite, Nat.mul_zero, Nat.mul_one]

/-- Settles O18: with every optional field's length as a multiple of its flag, the offsets of `pktFields` are those
of R68. -/
theorem pktDecFields : Obligations.PktDecFields := by
  intro l b p hp
  obtain ⟨rfl, hlen⟩ := pktDec_eq_ok hp
  intro h S C I F T P
  have hS : (if h.packetType = Config.ptDataWithId then 4 else 0) = 4 * S := (mul_boole _ 4).symm
  have hC : (if h.hasClassId = true then 8 else 0) = 8 * C := ite_eq_mul_toNat 8 h.hasClassId
  have hI : (if h.tsi ≠ Config.tsiNone then 4 else 0) = 4 * I := ite_ne_zero_eq_mul 4 h.tsi
  have hF : (if h.tsf ≠ Config.tsfNone then 8 else 0) = 8 * F := ite_ne_zero_eq_mul 8 h.tsf
  have hP : 4 + 4 * S + 8 * C + 4 * I + 8 * F + 4 * T ≤ b.length := by
    have hlen : 4 * prefixWords h.packetType h.hasClassId h.tsi h.tsf + 4 * T ≤ b.length := hlen
    rwa [four_mul_prefixWords, hS, hC, hI, hF] at hlen
  have hcid {α : Type} (part : ClassId → α) :
      (if h.hasClassId = true then
        some (part (cidDec (slice b (4 + (if h.packetType = Config.ptDataWithId then 4 else 0)) 8))) else none) =
      if C = 1 then
        some (part ⟨BitVec.ofNat 24 (ube (slice b (5 + 4 * S) 3)), BitVec.ofNat 16 (ube (slice b (8 + 4 * S) 2)),
          BitVec.ofNat 16 (ube (slice b (10 + 4 * S) 2))⟩) else none := by
    rw [ite_toNat_eq_one]
    refine if_ctx_congr Iff.rfl (fun hc => ?_) fun _ => rfl
    rw [if_pos hc] at hC
    rw [hS, cidDec_slice (by omega), Nat.add_right_comm 4 _ 1, Nat.add_right_comm 4 _ 4, Nat.add_right_comm 4 _ 6]
  refine ⟨rfl, rfl, rfl, rfl, ?tsm, ?streamId, hcid ClassId.oui, hcid ClassId.infoClass, hcid ClassId.packetClass,
    ?timestamp, hP, ?data, ?trailer⟩
  case tsm =>
    show (if h.packetType ∈ Config.contextTypes then some h.tsm else none) = _
    simp only [Config.contextTypes, List.mem_cons, List.not_mem_nil, or_false]
    rfl
  case streamId =>
    show (if h.packetType = 1 then _ else none) = if (if h.packetType = 1 then 1 else 0) = 1 then _ else none
    split <;> rfl
  case timestamp =>
    rw [← hS, ← hC, ← hI]
    exact tsDec_slices b h.tsi h.tsf _ _
  case data =>
    have hoff : 4 + (if h.packetType = Config.ptDataWithId then 4 else 0) + (if h.hasClassId = true then 8 else 0)
        + (if h.tsi ≠ Config.tsiNone then 4 else 0) + (if h.tsf ≠ Config.tsfNone then 8 else 0) = P := by
      rw [hS, hC, hI, hF]
    exact congrArg (fun o => slice b o (b.length - 4 * T - o)) hoff
  case trailer =>
    have htrl : (pktFields l b).trailer = if h.hasTrailer = true then
        some (trlDec l (BitVec.ofNat 32 (ube (slice b (b.length - 4 * T) 4)))) else none := rfl
    rw [htrl, ite_toNat_eq_one]
    refine if_ctx_congr Iff.rfl (fun ht => ?_) fun _ => rfl
    have hT : T = 1 := congrArg Bool.toNat ht
    rw [hT]

end Sys2Proof.Machine
end

section
/-! PROOF. O6 to O9: the BitField codec. BF.DEC writes the fields of a layout one after the other, so a name's value
is what the last descriptor of that name writes; BF.ENC is the one of `bfEnc_of_fit`. -/

namespace Sys2Proof.Machine

/-! ### Records (R91) -/

@[simp] theorem recordGet_recordSet_same (v : Record) (n : FieldName) (a : Nat) :
    recordGet (recordSet v n a) n = some a := by
  induction v with
  | nil => simp [recordSet, recordGet]
  | cons e v ih =>
    by_cases he : e.1 = n <;> simp [recordSet, recordGet, he, ih]

theorem recordGet_recordSet_of_ne {m n : FieldName} (h : m ≠ n) (v : Record) (a : Nat) :
    recordGet (recordSet v m a) n = recordGet v n := by
  induction v with
  | nil => simp [recordSet, recordGet, h]
  | cons e v ih =>
    by_cases he : e.1 = m
    · simp [recordSet, recordGet, he, h]
    · simp [recordSet, recordGet, he, ih]

theorem recordCovers_iff {d : List Descriptor} {v : Record} : recordCovers d v = true ↔
    ∀ x ∈ d, ∀ n, x.name = some n → recordGet v n = some (placed v x) := by
  simp only [recordCovers, List.all_eq_true, placed]
  refine forall₂_congr fun x _ => ?_
  cases x.name with
  | none => simp
  | some n => cases h : recordGet v n <;> simp [h]

/-! ### The fields BF.DEC takes out of a word (R91) -/

theorem bfExtract_cons_reserved {x : Descriptor} (hx : x.name = none) (d : List Descriptor) (hi w : Nat)
    (out : Record) : bfExtract (x :: d) hi w out = bfExtract d (hi - x.width) w out := by
  simp only [bfExtract, hx]

theorem bfExtract_cons_named {x : Descriptor} {n : FieldName} (hx : x.name = some n) (d : List Descriptor)
    (hi w : Nat) (out : Record) : bfExtract (x :: d) hi w out =
      bfExtract d (hi - x.width) w (recordSet out n ((w >>> (hi - x.width)) &&& (2 ^ x.width - 1))) := by
  simp only [bfExtract, hx]

/-- A name that no descriptor has keeps the value it had. -/
theorem recordGet_bfExtract_of_unnamed {d : List Descriptor} {n : FieldName} (hn : ∀ x ∈ d, x.name ≠ some n)
    (hi w : Nat) (out : Record) : recordGet (bfExtract d hi w out) n = recordGet out n := by
  induction d generalizing hi out with
  | nil => rfl
  | cons x d ih =>
    obtain ⟨hx, hd⟩ := List.forall_mem_cons.mp hn
    cases hm : x.name with
    | none => rw [bfExtract_cons_reserved hm, ih hd]
    | some m =>
      rw [bfExtract_cons_named hm, ih hd, recordGet_recordSet_of_ne]
      rintro rfl
      exact hx hm

/-- The last descriptor of a name gives its value (log 23). -/
theorem recordGet_bfExtract {d : List Descriptor} {k : Nat} {x : Descriptor} {n : FieldName} (hk : d[k]? = some x)
    (hn : x.name = some n) (hlast : ∀ j y, k < j → d[j]? = some y → y.name ≠ some n) (hi w : Nat) (out : Record) :
    recordGet (bfExtract d hi w out) n =
      some ((w >>> (hi - ((d.take (k + 1)).map Descriptor.width).sum)) &&& (2 ^ x.width - 1)) := by
  induction d generalizing hi out k with
  | nil => cases hk
  | cons y d ih =>
    cases k with
    | zero =>
      obtain rfl : y = x := by simpa using hk
      have hrest : ∀ z ∈ d, z.name ≠ some n := fun z hz => by
        obtain ⟨j, hj⟩ := List.mem_iff_getElem?.mp hz
        exact hlast (j + 1) z j.succ_pos (by simpa using hj)
      rw [bfExtract_cons_named hn, recordGet_bfExtract_of_unnamed hrest]
      simp
    | succ k =>
      have htail : ∀ out, recordGet (bfExtract d (hi - y.width) w out) n =
          some ((w >>> (hi - (((y :: d).take (k + 1 + 1)).map Descriptor.width).sum)) &&& (2 ^ x.width - 1)) := by
        intro out
        rw [ih (by simpa using hk) fun j z hj hz => hlast (j + 1) z (Nat.succ_lt_succ hj) (by simpa using hz),
          List.take_succ_cons, List.map_cons, List.sum_cons, Nat.sub_sub]
      cases hy : y.name with
      | none => rw [bfExtract_cons_reserved hy, htail]
      | some m => rw [bfExtract_cons_named hy, htail]

/-- In a layout whose names differ, the descriptor of a name is the last of that name. -/
theorem name_ne_of_names_nodup {d : List Descriptor} (hd : (d.filterMap Descriptor.name).Nodup) {j k : Nat}
    {x y : Descriptor} {n : FieldName} (hk : d[k]? = some x) (hn : x.name = some n) (hkj : k < j)
    (hj : d[j]? = some y) : y.name ≠ some n := by
  intro hy
  obtain ⟨hkl, rfl⟩ := List.getElem?_eq_some_iff.mp hk
  obtain ⟨hjl, rfl⟩ := List.getElem?_eq_some_iff.mp hj
  exact List.pairwise_iff_getElem.mp (List.pairwise_filterMap.mp hd) k j hkl hjl hkj n hn n hy rfl

/-! ### BF.DEC and BF.ENC (R90 to R92) -/

theorem bfDec_of_layout {d : List Descriptor} (w : Word) (hd : IsLayout d) :
    bfDec d w = .ok (bfExtract d 32 w.toNat []) := if_pos ((layoutOk_iff d).mpr hd)

theorem bfDec_of_not_layout {d : List Descriptor} (w : Word) (hd : ¬ IsLayout d) : bfDec d w = .error .bfDesc :=
  if_neg (mt (layoutOk_iff d).mp hd)

theorem exec_bfDec (d : List Descriptor) (w : Word) (s : State) :
    exec (.bfDec d w) s = .next { s with out := resultOf .record (bfDec d w) } := rfl

theorem exec_bfEnc_complete {d : List Descriptor} {v : Record} (s : State) (hc : recordCovers d v = true) :
    exec (.bfEnc d v) s = .next { s with out := resultOf .word (bfEnc d v) } := if_pos hc

/-- Settles O6, by what the last descriptor of a name leaves in the record. -/
theorem bfDecExtracts : Obligations.BfDecExtracts := by
  intro d w s hd
  refine ⟨bfExtract d 32 w.toNat [], ?_, fun k x n hk hn hlast => ?_, fun n hn => ?_⟩
  · rw [exec_bfDec, bfDec_of_layout w hd]
    rfl
  · exact recordGet_bfExtract hk hn hlast 32 w.toNat []
  · exact recordGet_bfExtract_of_unnamed hn 32 w.toNat []

/-- A reserved descriptor's 0 and, in a covering record, the named values fit when the latter are in range. -/
theorem placed_lt_of_covers {d : List Descriptor} {v : Record} (hc : recordCovers d v = true)
    (hrange : ∀ x ∈ d, ∀ n a, x.name = some n → recordGet v n = some a → a < 2 ^ x.width) :
    ∀ x ∈ d, placed v x < 2 ^ x.width := by
  intro x hx
  cases hn : x.name with
  | none =>
    simp only [placed, hn]
    positivity
  | some n => exact hrange x hx n _ hn (recordCovers_iff.mp hc x hx n hn)

/-- Settles O7: the values of a covering record in range fit, and BF.ENC places what fits. -/
theorem bfEncPlaces : Obligations.BfEncPlaces := by
  intro d v s hd hc hrange
  obtain ⟨w, hw, hplaced⟩ := bfEnc_of_fit hd (placed_lt_of_covers hc hrange)
  refine ⟨w, ?_, fun k x hk => ?_⟩
  · rw [exec_bfEnc_complete s hc, hw]
    rfl
  · rw [hplaced k x hk]
    rfl

/-- Settles O8: the two refusals, each as the codec's answer. -/
theorem bfRefuses : Obligations.BfRefuses := by
  intro d w v s hc
  rw [exec_bfDec, exec_bfEnc_complete s hc]
  refine ⟨fun hd => ?_, ?_⟩
  · rw [bfDec_of_not_layout w hd, bfEnc_of_not_layout v hd]
    exact ⟨rfl, rfl⟩
  · rintro hd ⟨x, hx, n, a, hn, ha, hwide⟩
    have hplaced : placed v x = a := by simp [placed, hn, ha]
    rw [bfEnc_of_too_wide hd ⟨x, hx, hplaced.symm ▸ hwide⟩]
    rfl

/-! ### The two laws (R92) -/

theorem fit_of_bfEnc_eq_ok {d : List Descriptor} {v : Record} {w : Word} (hd : IsLayout d)
    (hw : bfEnc d v = .ok w) : ∀ x ∈ d, placed v x < 2 ^ x.width := by
  intro x hx
  by_contra hwide
  rw [bfEnc_of_too_wide hd ⟨x, hx, not_lt.mp hwide⟩] at hw
  cases hw

/-- With names that differ, each name's value is its own field of the word. -/
theorem recordGet_bfExtract_of_names_nodup {d : List Descriptor} (hnd : (d.filterMap Descriptor.name).Nodup)
    {k : Nat} {x : Descriptor} {n : FieldName} (hk : d[k]? = some x) (hn : x.name = some n) (w : Word) :
    recordGet (bfExtract d 32 w.toNat []) n = some ((w.toNat >>> fieldPos d k) % 2 ^ x.width) := by
  rw [← Nat.and_two_pow_sub_one_eq_mod]
  exact recordGet_bfExtract hk hn (fun j y => name_ne_of_names_nodup hnd hk hn) 32 w.toNat []

/-- What the decoded record gives back to BF.ENC: a named field of the word, nothing for a reserved one. -/
theorem placed_bfExtract_of_names_nodup {d : List Descriptor} (hnd : (d.filterMap Descriptor.name).Nodup)
    {k : Nat} {x : Descriptor} (hk : d[k]? = some x) (w : Word) : placed (bfExtract d 32 w.toNat []) x =
      if x.name = none then 0 else (w.toNat >>> fieldPos d k) % 2 ^ x.width := by
  cases hn : x.name with
  | none => simp [placed, hn]
  | some n => simp [placed, hn, recordGet_bfExtract_of_names_nodup hnd hk hn]

/-- BF.DEC inverts BF.ENC (R92). -/
theorem recordGet_bfExtract_of_bfEnc {d : List Descriptor} (hd : IsLayout d)
    (hnd : (d.filterMap Descriptor.name).Nodup) {v : Record} {w : Word} (hc : recordCovers d v = true)
    (hw : bfEnc d v = .ok w) {n : FieldName} (hn : n ∈ d.filterMap Descriptor.name) :
    recordGet (bfExtract d 32 w.toNat []) n = recordGet v n := by
  obtain ⟨x, hx, hname⟩ := List.mem_filterMap.mp hn
  obtain ⟨k, hk⟩ := List.mem_iff_getElem?.mp hx
  obtain ⟨w', hw', hplaced⟩ := bfEnc_of_fit hd (fit_of_bfEnc_eq_ok hd hw)
  obtain rfl : w' = w := Except.ok.inj (hw'.symm.trans hw)
  rw [recordGet_bfExtract_of_names_nodup hnd hk hname, hplaced k x hk, recordCovers_iff.mp hc x hx n hname]

/-- Settles O9: both laws by what BF.ENC places and what BF.DEC reads, descriptor by descriptor. -/
theorem bfRoundTrips : Obligations.BfRoundTrips := by
  intro d hd hnd
  refine ⟨fun v w hc hw => ⟨_, bfDec_of_layout w hd, fun n => recordGet_bfExtract_of_bfEnc hd hnd hc hw⟩,
    fun w r hr => ?_⟩
  obtain rfl : bfExtract d 32 w.toNat [] = r := Except.ok.inj ((bfDec_of_layout w hd).symm.trans hr)
  have hfit : ∀ x ∈ d, placed (bfExtract d 32 w.toNat []) x < 2 ^ x.width := fun x hx => by
    obtain ⟨k, hk⟩ := List.mem_iff_getElem?.mp hx
    rw [placed_bfExtract_of_names_nodup hnd hk]
    split
    · positivity
    · exact Nat.mod_lt _ (by positivity)
  obtain ⟨w', hw', hplaced⟩ := bfEnc_of_fit hd hfit
  exact ⟨w', hw', fun k x hk => (hplaced k x hk).trans (placed_bfExtract_of_names_nodup hnd hk w)⟩

end Sys2Proof.Machine
end

section
/-! PROOF. O10 to O12: the Header and Trailer words. HDR.ENC and TRL.ENC lay the fields side by side, HDR.DEC and
TRL.DEC read them off; a word is its own fields side by side, so the laws compare the two field by field. -/

namespace Sys2Proof.Machine

/-! ### A word as its fields side by side -/

/-- A flag is a field of one bit. -/
theorem ofBool_getLsbD_eq_extractLsb' (w : Word) (k : Nat) : BitVec.ofBool (w.getLsbD k) = w.extractLsb' k 1 := by
  refine BitVec.eq_of_getLsbD_eq fun j hj => ?_
  obtain rfl : j = 0 := by omega
  simp

/-- A field of a word laid above the one below it is the field that spans the two. -/
theorem append_eq_extractLsb' {w : Word} {lo m n : Nat} {a : BitVec m} {b : BitVec n}
    (ha : a = w.extractLsb' (lo + n) m) (hb : b = w.extractLsb' lo n) : a ++ b = w.extractLsb' lo (m + n) := by
  rw [ha, hb, BitVec.extractLsb'_append_extractLsb'_eq_extractLsb' rfl]

/-! ### The Header word (R60, R61, R93, R94) -/

/-- Settles O10: BF.ENC's sum over the descriptors of the layout, written out. -/
theorem hdrEncWord : Obligations.HdrEncWord := by
  intro h s n
  have hword : bfInsert (headerLayout s.params.layout) 32 (headerRecord h) 0 = n := by
    simp only [n]
    cases s.params.layout <;>
      simp [headerLayout, headerRecord, bfInsert, recordGet, nmPacketType, nmHasClassId, nmHasTrailer, nmTsm, nmTsi,
        nmTsf, nmCount, nmSize]
  rw [← hword]
  rfl

/-- 1 in every bit of the Header but the reserved one (R60, R61). -/
def headerMask : Layout → Word
  | .vita => 0xFDFFFFFF
  | .listed => 0xFFFFFFBF

theorem readHeader_and_headerMask (l : Layout) (w : Word) : readHeader l (w &&& headerMask l) = readHeader l w := by
  cases l <;> simp only [readHeader, headerMask, BitVec.extractLsb'_and, BitVec.getLsbD_and, Header.mk.injEq] <;>
    exact ⟨BitVec.and_allOnes, Bool.and_true _, Bool.and_true _, Bool.and_true _, BitVec.and_allOnes,
      BitVec.and_allOnes, BitVec.and_allOnes, BitVec.and_allOnes⟩

/-- The reserved bit's position. -/
def headerReservedBit : Layout → Nat
  | .vita => 25
  | .listed => 6

/-- A word whose reserved bit is 0 is its Header fields side by side. -/
theorem headerWord_readHeader_of_reserved (l : Layout) {w : Word} (hw : w.getLsbD (headerReservedBit l) = false) :
    headerWord l (readHeader l w) = w := by
  have hreserved : (0 : BitVec 1) = w.extractLsb' (headerReservedBit l) 1 := by
    rw [← ofBool_getLsbD_eq_extractLsb', hw]
    rfl
  refine Eq.trans ?_ (BitVec.extractLsb'_eq_self (x := w))
  cases l <;> rw [headerWord, hreserved] <;> simp only [readHeader, ofBool_getLsbD_eq_extractLsb'] <;>
    iterate 8 refine append_eq_extractLsb' ?_ rfl
  all_goals rfl

/-- A word's Header fields side by side are the word with the reserved bit cleared. -/
theorem headerWord_readHeader (l : Layout) (w : Word) : headerWord l (readHeader l w) = w &&& headerMask l := by
  have hw : (w &&& headerMask l).getLsbD (headerReservedBit l) = false := by
    rw [BitVec.getLsbD_and]
    cases l <;> exact Bool.and_false _
  rw [← headerWord_readHeader_of_reserved l hw, readHeader_and_headerMask]

/-- Settles O11: the fields as the wire decoder reads them, and the laws as those of the word's fields. -/
theorem hdrDecFields : Obligations.HdrDecFields := by
  refine ⟨fun w s => ?_, fun l h => ?_, fun l w => ?_⟩
  · have hexec : exec (.hdrDec w) s = .next { s with out := .header (hdrDec s.params.layout w) } := rfl
    rw [hexec, ← readHeader_eq_hdrDec]
    cases s.params.layout <;> rfl
  · rw [← readHeader_eq_hdrDec, hdrEnc_eq_headerWord, readHeader_headerWord]
  · rw [← readHeader_eq_hdrDec, hdrEnc_eq_headerWord, headerWord_readHeader]
    cases l <;> rfl

/-! ### The Trailer word (R62, R95, R96) -/

/-- A Trailer is its four wire fields, where an absent count is `context_en = 0` (R73). -/
theorem trailerOfFields_of_trailer (t : Trailer) :
    trailerOfFields t.enables t.indicators t.contextCount.isSome (t.contextCount.getD 0) = t := by
  obtain ⟨e, i, _ | c⟩ := t <;> rfl

/-- An absent count is written as seven 0 bits (R95). -/
theorem trailerRecord_eq (t : Trailer) : trailerRecord t =
    [(nmEnables, t.enables.toNat), (nmIndicators, t.indicators.toNat), (nmContextEn, t.contextCount.isSome.toNat),
      (nmContextCount, (t.contextCount.getD 0).toNat)] := by
  obtain ⟨e, i, _ | c⟩ := t <;> rfl

theorem bfInsert_trailerRecord_vita (t : Trailer) : bfInsert (trailerLayout .vita) 32 (trailerRecord t) 0 =
    (t.enables.toNat <<< 20) ||| (t.indicators.toNat <<< 8) ||| (t.contextCount.isSome.toNat <<< 7)
      ||| (t.contextCount.getD 0).toNat := by
  rw [trailerRecord_eq]
  simp [trailerLayout, bfInsert, recordGet, nmEnables, nmIndicators, nmContextEn, nmContextCount]

theorem bfInsert_trailerRecord_listed (t : Trailer) : bfInsert (trailerLayout .listed) 32 (trailerRecord t) 0 =
    ((t.contextCount.getD 0).toNat <<< 25) ||| (t.contextCount.isSome.toNat <<< 24)
      ||| (t.indicators.toNat <<< 12) ||| t.enables.toNat := by
  rw [trailerRecord_eq]
  simp [trailerLayout, bfInsert, recordGet, nmEnables, nmIndicators, nmContextEn, nmContextCount]

/-- The Trailer word with its four fields side by side as R62 lists them. -/
def trailerWord : Layout → BitVec 12 → BitVec 12 → Bool → BitVec 7 → Word
  | .vita, enables, indicators, contextEn, count => enables ++ indicators ++ BitVec.ofBool contextEn ++ count
  | .listed, enables, indicators, contextEn, count => count ++ BitVec.ofBool contextEn ++ indicators ++ enables

theorem trlEnc_eq_trailerWord (l : Layout) (t : Trailer) : trlEnc l t =
    trailerWord l t.enables t.indicators t.contextCount.isSome (t.contextCount.getD 0) := by
  have hfields : bfInsert (trailerLayout l) 32 (trailerRecord t) 0 =
      (trailerWord l t.enables t.indicators t.contextCount.isSome (t.contextCount.getD 0)).toNat := by
    cases l <;>
      simp only [bfInsert_trailerRecord_vita, bfInsert_trailerRecord_listed, trailerWord, BitVec.toNat_append,
        BitVec.toNat_ofBool, Nat.shiftLeft_or_distrib, ← Nat.shiftLeft_add]
  rw [trlEnc, hfields, BitVec.ofNat_toNat, BitVec.setWidth_eq]

/-- The count of a Trailer with `context_en = 0` is written as zeros. -/
theorem trlEnc_trailerOfFields (l : Layout) (e i : BitVec 12) (x : Bool) (c : BitVec 7) :
    trlEnc l (trailerOfFields e i x c) = trailerWord l e i x (if x = true then c else 0) := by
  rw [trlEnc_eq_trailerWord]
  cases x <;> rfl

theorem trlDec_trailerWord (l : Layout) (e i : BitVec 12) (x : Bool) (c : BitVec 7) :
    trlDec l (trailerWord l e i x c) = trailerOfFields e i x c := by
  cases l with
  | vita =>
    obtain ⟨he, hi, hx, hc⟩ := trailerVita_fields e i x c
    rw [trailerWord, trlDec_vita, he, hi, hx, hc]
  | listed =>
    obtain ⟨he, hi, hx, hc⟩ := trailerListed_fields e i x c
    rw [trailerWord, trlDec_listed, he, hi, hx, hc]

theorem trailerWord_count_inj (l : Layout) (e i : BitVec 12) (x : Bool) (c c' : BitVec 7) :
    trailerWord l e i x c = trailerWord l e i x c' ↔ c = c' := by
  cases l with
  | vita => exact BitVec.append_right_inj _
  | listed => exact (BitVec.append_left_inj _).trans ((BitVec.append_left_inj _).trans (BitVec.append_left_inj _))

/-- A word of four fields is written back exactly when its count was 0 or its `context_en` 1 (R96). -/
theorem trlEnc_trailerOfFields_eq_iff (l : Layout) (e i : BitVec 12) (x : Bool) (c : BitVec 7) :
    trlEnc l (trailerOfFields e i x c) = trailerWord l e i x c ↔ c = 0 ∨ x = true := by
  rw [trlEnc_trailerOfFields, trailerWord_count_inj]
  cases x
  · simpa using eq_comm
  · simp

theorem trailerWord_vita_of_word (w : Word) :
    trailerWord .vita (w.extractLsb' 20 12) (w.extractLsb' 8 12) (w.getLsbD 7) (w.extractLsb' 0 7) = w := by
  refine Eq.trans ?_ (BitVec.extractLsb'_eq_self (x := w))
  rw [trailerWord, ofBool_getLsbD_eq_extractLsb']
  iterate 3 refine append_eq_extractLsb' ?_ rfl
  rfl

theorem trailerWord_listed_of_word (w : Word) :
    trailerWord .listed (w.extractLsb' 0 12) (w.extractLsb' 12 12) (w.getLsbD 24) (w.extractLsb' 25 7) = w := by
  refine Eq.trans ?_ (BitVec.extractLsb'_eq_self (x := w))
  rw [trailerWord, ofBool_getLsbD_eq_extractLsb']
  iterate 3 refine append_eq_extractLsb' ?_ rfl
  rfl

/-- Settles O12: the word of R95 by the descriptors of the layout, the fields of R96 by `trlDec_vita` and
`trlDec_listed`, and the laws by a word's four fields. -/
theorem trailerWords : Obligations.TrailerWords := by
  refine ⟨fun t s => ?_, fun w s => ?_, fun l t => ?_, fun l w => ?_⟩
  · intro n
    have hword : bfInsert (trailerLayout s.params.layout) 32 (trailerRecord t) 0 = n := by
      simp only [n]
      cases s.params.layout with
      | vita => exact bfInsert_trailerRecord_vita t
      | listed => exact bfInsert_trailerRecord_listed t
    rw [← hword]
    rfl
  · have hexec : exec (.trlDec w) s = .next { s with out := .trailer (trlDec s.params.layout w) } := rfl
    rw [hexec]
    cases s.params.layout with
    | vita =>
      rw [trlDec_vita]
      rfl
    | listed =>
      rw [trlDec_listed]
      rfl
  · rw [trlEnc_eq_trailerWord, trlDec_trailerWord, trailerOfFields_of_trailer]
  · cases l with
    | vita =>
      have h := trlEnc_trailerOfFields_eq_iff .vita (w.extractLsb' 20 12) (w.extractLsb' 8 12) (w.getLsbD 7)
        (w.extractLsb' 0 7)
      rwa [← trlDec_vita, trailerWord_vita_of_word] at h
    | listed =>
      have h := trlEnc_trailerOfFields_eq_iff .listed (w.extractLsb' 0 12) (w.extractLsb' 12 12) (w.getLsbD 24)
        (w.extractLsb' 25 7)
      rwa [← trlDec_listed, trailerWord_listed_of_word] at h

end Sys2Proof.Machine
end

section
/-! PROOF. O13 to O15: the class identifier byte by byte, the timestamp's words, and the size of a packet. -/

namespace Sys2Proof.Machine

/-! ### Bytes and words (R6) -/

/-- The bytes of a field of `8 * n` bits that was read from `n` bytes are those bytes. -/
theorem be_ofNat_ube {b : Bytes} {n w : Nat} (hn : b.length = n) (hw : 256 ^ n = 2 ^ w) :
    be n (BitVec.ofNat w (ube b)).toNat = b := by
  have hlt : ube b < 2 ^ w := hw ▸ hn ▸ ube_lt b
  rw [BitVec.toNat_ofNat, Nat.mod_eq_of_lt hlt, ← hn, be_ube]

/-- A field of `8 * n` bits is read back from its `n` bytes. -/
theorem ofNat_ube_be {n w : Nat} (v : BitVec w) (hw : 2 ^ w ≤ 256 ^ n) :
    BitVec.ofNat w (ube (be n v.toNat)) = v := by
  rw [ube_be_of_lt (v.isLt.trans_le hw), BitVec.ofNat_toNat, BitVec.setWidth_eq]

theorem ofNat_ube_pair (x y : Byte) : BitVec.ofNat 16 (ube [x, y]) = x ++ y := by
  refine BitVec.eq_of_toNat_eq ?_
  rw [BitVec.toNat_append, ← Nat.shiftLeft_add_eq_or_of_lt y.isLt, Nat.shiftLeft_eq, BitVec.toNat_ofNat]
  simp only [ube, List.foldl_cons, List.foldl_nil]
  omega

theorem ofNat_ube_triple (x y z : Byte) : BitVec.ofNat 24 (ube [x, y, z]) = x ++ y ++ z := by
  refine BitVec.eq_of_toNat_eq ?_
  rw [BitVec.toNat_append, BitVec.toNat_append, ← Nat.shiftLeft_add_eq_or_of_lt y.isLt,
    ← Nat.shiftLeft_add_eq_or_of_lt z.isLt, Nat.shiftLeft_eq, Nat.shiftLeft_eq, BitVec.toNat_ofNat]
  simp only [ube, List.foldl_cons, List.foldl_nil]
  omega

/-! ### The class identifier (R65, R110, R111) -/

/-- The class identifier as two words, the first led by the padding byte (R65). -/
theorem cidEnc_eq_words (c : ClassId) :
    cidEnc c = be 4 ((0 : Byte) ++ c.oui).toNat ++ be 4 (c.infoClass ++ c.packetClass).toNat := by
  rw [cidEnc, BitVec.toNat_append, BitVec.toNat_append]
  simp

theorem cidEnc_eq_bytes (c : ClassId) : cidEnc c =
    [0, c.oui.extractLsb' 16 8, c.oui.extractLsb' 8 8, c.oui.extractLsb' 0 8,
      c.infoClass.extractLsb' 8 8, c.infoClass.extractLsb' 0 8,
      c.packetClass.extractLsb' 8 8, c.packetClass.extractLsb' 0 8] := by
  have hword (w : Word) : be 4 w.toNat =
      [w.extractLsb' 24 8, w.extractLsb' 16 8, w.extractLsb' 8 8, w.extractLsb' 0 8] := rfl
  have hpad : ((0 : Byte) ++ c.oui).extractLsb' 24 8 = 0 := BitVec.extractLsb'_append_eq_left
  have hinfo (k : Nat) : (c.infoClass ++ c.packetClass).extractLsb' (k + 16) 8 = c.infoClass.extractLsb' k 8 := by
    rw [BitVec.extractLsb'_append_eq_of_le (Nat.le_add_left 16 k), Nat.add_sub_cancel]
  have hpacket {k : Nat} (hk : k + 8 ≤ 16) :
      (c.infoClass ++ c.packetClass).extractLsb' k 8 = c.packetClass.extractLsb' k 8 :=
    BitVec.extractLsb'_append_eq_of_add_le hk
  have houi {k : Nat} (hk : k + 8 ≤ 24) : ((0 : Byte) ++ c.oui).extractLsb' k 8 = c.oui.extractLsb' k 8 :=
    BitVec.extractLsb'_append_eq_of_add_le hk
  rw [cidEnc_eq_words, hword, hword, hpad, houi (by decide), houi (by decide), houi (by decide), hinfo 8, hinfo 0,
    hpacket (by decide), hpacket (by decide)]
  rfl

/-- The padding byte is ignored (R111). -/
theorem cidDec_bytes (b0 b1 b2 b3 b4 b5 b6 b7 : Byte) :
    cidDec [b0, b1, b2, b3, b4, b5, b6, b7] = ⟨b1 ++ b2 ++ b3, b4 ++ b5, b6 ++ b7⟩ := by
  rw [← ofNat_ube_triple, ← ofNat_ube_pair, ← ofNat_ube_pair]
  exact cidDec_slice (b := [b0, b1, b2, b3, b4, b5, b6, b7]) (off := 0) le_rfl

/-! ### The timestamp (R112, R113) -/

/-- The seconds word of a timestamp (R70, R112). -/
def secondsBytes (tsi : BitVec 2) (ts : Nat) : Bytes := if tsi = 0 then [] else be 4 (ts / 10 ^ 12)

/-- The picoseconds of a timestamp (R71, R112). -/
def fractionBytes (tsf : BitVec 2) (ts : Nat) : Bytes := if tsf = 0 then [] else be 8 (ts % 10 ^ 12)

theorem tsEnc_eq (ts : Nat) (tsi tsf : BitVec 2) : tsEnc ts tsi tsf =
    if tsi ≠ 0 ∧ 2 ^ 32 ≤ ts / 10 ^ 12 then .error .tsRange
    else .ok (secondsBytes tsi ts ++ fractionBytes tsf ts) := by
  rw [secondsBytes, fractionBytes, ← ite_not (tsi = 0), ← ite_not (tsf = 0)]
  rfl

theorem tsDec_eq (sec : Option Word) (frac : Option (BitVec 64)) : tsDec sec frac =
    if sec = none ∧ frac = none then none
    else some ((sec.getD 0).toNat * 10 ^ 12 + (frac.getD 0).toNat) := by
  cases sec <;> cases frac <;> simp [tsDec, picos]

/-- The words of a timestamp are read back as the timestamp, where no part that counts is left off (R114). -/
theorem tsDec_of_words {ts : Nat} {tsi tsf : BitVec 2} (hkind : ¬ (tsi = 0 ∧ tsf = 0))
    (hfit : tsi ≠ 0 → ts / 10 ^ 12 < 2 ^ 32) (hsec : tsi = 0 → ts < 10 ^ 12) (hfrac : tsf = 0 → ts % 10 ^ 12 = 0) :
    tsDec (if tsi ≠ 0 then some (BitVec.ofNat 32 (ts / 10 ^ 12)) else none)
      (if tsf ≠ 0 then some (BitVec.ofNat 64 (ts % 10 ^ 12)) else none) = some ts := by
  have hseconds : ((if tsi ≠ 0 then some (BitVec.ofNat 32 (ts / 10 ^ 12)) else none).getD 0).toNat
      = ts / 10 ^ 12 := by
    split
    · next h => exact Nat.mod_eq_of_lt (hfit h)
    · next h => exact (Nat.div_eq_of_lt (hsec (not_not.mp h))).symm
  have hfraction : ((if tsf ≠ 0 then some (BitVec.ofNat 64 (ts % 10 ^ 12)) else none).getD 0).toNat
      = ts % 10 ^ 12 := by
    split
    · exact Nat.mod_eq_of_lt ((Nat.mod_lt ts (by decide)).trans (by decide))
    · next h => exact (hfrac (not_not.mp h)).symm
  rw [tsDec_eq, hseconds, hfraction, if_neg (by simpa using hkind), Nat.div_add_mod' ts]

/-- Settles O14: TS.ENC and TS.DEC by their equations; with both kinds of word nothing is left off. -/
theorem timestampWords : Obligations.TimestampWords := by
  refine ⟨fun ts tsi tsf s => ?_, fun sec frac s => ?_, fun ts b hb => ?_⟩
  · intro r
    have hr : resultOf .bytes (tsEnc ts tsi tsf) = r := by
      rw [tsEnc_eq, apply_ite (resultOf .bytes)]
      rfl
    rw [← hr]
    rfl
  · intro t
    have ht : tsDec sec frac = t := tsDec_eq sec frac
    rw [← ht]
    rfl
  · rw [tsEnc_eq] at hb
    split_ifs at hb with hrange
    obtain rfl : be 4 (ts / 10 ^ 12) ++ be 8 (ts % 10 ^ 12) = b := Except.ok.inj hb
    have hfit : ts / 10 ^ 12 < 2 ^ 32 := not_le.mp fun h => hrange ⟨by decide, h⟩
    have hfrac : ts % 10 ^ 12 < 256 ^ 8 := (Nat.mod_lt ts (by decide)).trans (by decide)
    refine ⟨by simp, ?_⟩
    have hslice0 : slice (be 4 (ts / 10 ^ 12) ++ be 8 (ts % 10 ^ 12)) 0 4 = be 4 (ts / 10 ^ 12) := rfl
    have hslice4 : slice (be 4 (ts / 10 ^ 12) ++ be 8 (ts % 10 ^ 12)) 4 8 = be 8 (ts % 10 ^ 12) := rfl
    rw [hslice0, hslice4, ube_be_of_lt hfit, ube_be_of_lt hfrac]
    exact tsDec_of_words (tsi := 1) (tsf := 2) (by decide) (fun _ => hfit) (fun h => absurd h (by decide))
      fun h => absurd h (by decide)

/-! ### The size of a packet (R118) -/

theorem classId?_isSome_iff (p : Packet) : (Packet.classId? p).isSome = true ↔
    p.oui.isSome = true ∧ p.infoClass.isSome = true ∧ p.packetClass.isSome = true := by
  unfold Packet.classId?
  cases p.oui <;> cases p.infoClass <;> cases p.packetClass <;> simp

theorem prefixWords_eq (pt : BitVec 4) (c : Bool) (tsi tsf : BitVec 2) : prefixWords pt c tsi tsf =
    1 + (if pt = 1 then 1 else 0) + (if c = true then 2 else 0) + (if tsi = 0 then 0 else 1)
      + (if tsf = 0 then 0 else 2) := by
  rw [← ite_not (tsi = 0), ← ite_not (tsf = 0)]
  rfl

/-- Settles O15: the model's sum, its class-identifier term told by the three parts. -/
theorem pktSizeFormula : Obligations.PktSizeFormula := by
  intro p s hdata words
  have hsize : pktSize p = words := by
    simp only [pktSize, prefixWords_eq, classId?_isSome_iff, words]
  rw [← hsize]
  exact if_pos hdata

end Sys2Proof.Machine

/-! O13 stands outside `Machine`, where `classIdBytes` is a function of the model. -/

namespace Sys2Proof

open Machine

/-- Settles O13: the identifier's bytes are those of its two words, and each part is read from its own bytes. -/
theorem classIdBytes : Obligations.ClassIdBytes := by
  refine ⟨fun c s => ?_, fun b0 b1 b2 b3 b4 b5 b6 b7 s => ?_⟩
  · intro b
    have hb : cidEnc c = b := cidEnc_eq_bytes c
    rw [← hb]
    rfl
  · rw [← cidDec_bytes b0]
    rfl

end Sys2Proof
end

section
/-! PROOF. O16 and O17: the errors of PKT.ENC and PKT.DEC in their order, and the bytes PKT.ENC writes. -/

namespace Sys2Proof.Machine

/-! ### PKT.ENC (R119) -/

theorem noClassId_iff (p : Packet) :
    Packet.noClassId p = true ↔ p.oui = none ∧ p.infoClass = none ∧ p.packetClass = none := by
  simp [Packet.noClassId, and_assoc]

/-- The class identifier's three parts are all there or all absent. -/
def ClassIdWhole (p : Packet) : Prop := (Packet.classId? p).isSome = true ∨ Packet.noClassId p = true

theorem classIdWhole_iff (p : Packet) : ClassIdWhole p ↔
    (p.oui.isSome = true ∧ p.infoClass.isSome = true ∧ p.packetClass.isSome = true) ∨
      (p.oui = none ∧ p.infoClass = none ∧ p.packetClass = none) := by
  rw [ClassIdWhole, classId?_isSome_iff, noClassId_iff]

/-- PKT.ENC's first test. -/
theorem classIdWhole_iff_not_partial (p : Packet) :
    ClassIdWhole p ↔ ¬ ((Packet.classId? p).isNone && !Packet.noClassId p) = true := by
  rw [ClassIdWhole]
  cases Packet.classId? p <;> cases Packet.noClassId p <;> simp

theorem pktEncError_of_partial_classId {p : Packet} (h : ¬ ClassIdWhole p) : pktEncError p = some .classId :=
  if_pos (not_not.mp (mt (classIdWhole_iff_not_partial p).mpr h))

section Tested
variable {p : Packet} (hcid : ClassIdWhole p)
include hcid

theorem pktEncError_of_streamId_missing (ht : p.packetType = 1) (h : p.streamId = none) :
    pktEncError p = some .sidMissing := by
  rw [pktEncError, if_neg ((classIdWhole_iff_not_partial p).mp hcid)]
  exact if_pos ⟨ht, h⟩

variable (hsid : p.packetType = 1 → p.streamId ≠ none)
include hsid

theorem pktEncError_of_timestamp_missing (hkind : p.tsi ≠ 0 ∨ p.tsf ≠ 0) (h : p.timestamp = none) :
    pktEncError p = some .tsMissing := by
  rw [pktEncError, if_neg ((classIdWhole_iff_not_partial p).mp hcid), if_neg fun h => hsid h.1 h.2]
  exact if_pos ⟨hkind, h⟩

/-- The last three tests, where every field that the Packet announces is there. -/
theorem pktEncError_of_present (hts : p.tsi ≠ 0 ∨ p.tsf ≠ 0 → p.timestamp ≠ none) : pktEncError p =
    if p.tsi ≠ 0 ∧ 2 ^ 32 ≤ p.timestamp.getD 0 / 10 ^ 12 then some .tsRange
    else if p.data.length % 4 ≠ 0 then some .payloadAlign
    else if 65535 < pktSize p then some .sizeOverflow
    else none := by
  rw [pktEncError, if_neg ((classIdWhole_iff_not_partial p).mp hcid), if_neg fun h => hsid h.1 h.2,
    if_neg fun h => hts h.1 h.2]
  rfl

end Tested

/-- What R119 asks of a Packet (R114). -/
structure Encodable (p : Packet) : Prop where
  classId : ClassIdWhole p
  streamId : p.packetType = 1 → p.streamId ≠ none
  timestamp : p.tsi ≠ 0 ∨ p.tsf ≠ 0 → p.timestamp ≠ none
  seconds : p.tsi ≠ 0 → p.timestamp.getD 0 / 10 ^ 12 < 2 ^ 32
  aligned : p.data.length % 4 = 0
  size : pktSize p ≤ 65535

theorem pktEncError_eq_none_iff (p : Packet) : pktEncError p = none ↔ Encodable p := by
  constructor
  · intro h
    unfold pktEncError at h
    split_ifs at h with hcid hsid hts hsec halign hsize
    exact ⟨(classIdWhole_iff_not_partial p).mpr hcid, fun ht hs => hsid ⟨ht, hs⟩, fun hk ht => hts ⟨hk, ht⟩,
      fun hk => not_le.mp fun hle => hsec ⟨hk, hle⟩, not_not.mp halign, not_lt.mp hsize⟩
  · rintro ⟨hcid, hsid, hts, hsec, halign, hsize⟩
    rw [pktEncError_of_present hcid hsid hts, if_neg fun h => (hsec h.1).not_ge h.2, if_neg (not_not.mpr halign),
      if_neg hsize.not_gt]

theorem pktEnc_of_error {p : Packet} {e : ErrCode} (h : pktEncError p = some e) (l : Layout) :
    pktEnc l p = .error e := by
  rw [pktEnc, h]

/-! ### The bytes of a packet, part by part (R67) -/

/-- The parts of a packet's bytes, in the order of R67. -/
@[ext] structure PacketParts where
  header : Word
  streamId : Bytes
  classId : Bytes
  seconds : Bytes
  fraction : Bytes
  data : Bytes
  trailer : Bytes

/-- The parts one after the other (R67). -/
def PacketParts.bytes (q : PacketParts) : Bytes :=
  be 4 q.header.toNat ++ q.streamId ++ q.classId ++ q.seconds ++ q.fraction ++ q.data ++ q.trailer

/-! The lengths of the optional parts, in bytes (R64, R65, R70, R71, R62). -/

def streamIdLen (pt : BitVec 4) : Nat := if pt = 1 then 4 else 0
def classIdLen (c : Bool) : Nat := if c = true then 8 else 0
def secondsLen (tsi : BitVec 2) : Nat := if tsi = 0 then 0 else 4
def fractionLen (tsf : BitVec 2) : Nat := if tsf = 0 then 0 else 8
def trailerLen (t : Bool) : Nat := if t = true then 4 else 0

/-- Each optional part has the length that the Header's presence flags give it (R68). -/
structure PacketParts.Fits (q : PacketParts) (h : Header) : Prop where
  streamId : q.streamId.length = streamIdLen h.packetType
  classId : q.classId.length = classIdLen h.hasClassId
  seconds : q.seconds.length = secondsLen h.tsi
  fraction : q.fraction.length = fractionLen h.tsf
  trailer : q.trailer.length = trailerLen h.hasTrailer

/-- The Header word, the optional fields and the trailer, in bytes (R118). -/
theorem four_mul_words (h : Header) :
    4 * (prefixWords h.packetType h.hasClassId h.tsi h.tsf + h.hasTrailer.toNat) =
      4 + streamIdLen h.packetType + classIdLen h.hasClassId + secondsLen h.tsi + fractionLen h.tsf
        + trailerLen h.hasTrailer := by
  have htrailer : trailerLen h.hasTrailer = 4 * h.hasTrailer.toNat := ite_eq_mul_toNat 4 h.hasTrailer
  rw [Nat.mul_add, four_mul_prefixWords, secondsLen, fractionLen, ← ite_not (h.tsi = 0), ← ite_not (h.tsf = 0),
    htrailer]
  rfl

theorem PacketParts.Fits.bytes_length {q : PacketParts} {h : Header} (hq : q.Fits h) : q.bytes.length =
    4 * (prefixWords h.packetType h.hasClassId h.tsi h.tsf + h.hasTrailer.toNat) + q.data.length := by
  obtain ⟨hsid, hcid, hsec, hfrac, htrl⟩ := hq
  simp only [four_mul_words, PacketParts.bytes, List.length_append, be_length, hsid, hcid, hsec, hfrac, htrl]
  omega

/-- The parts PKT.ENC writes. -/
def packetParts (l : Layout) (p : Packet) : PacketParts where
  header := hdrEnc l (Packet.toHeader p (pktSize p))
  streamId := streamIdBytes p
  classId := classIdBytes p
  seconds := secondsBytes p.tsi (p.timestamp.getD 0)
  fraction := fractionBytes p.tsf (p.timestamp.getD 0)
  data := p.data
  trailer := trailerBytes l p

theorem streamIdBytes_eq {p : Packet} (h : p.packetType = 1 → p.streamId ≠ none) :
    streamIdBytes p = if p.packetType = 1 then be 4 (p.streamId.getD 0).toNat else [] := by
  refine if_ctx_congr Iff.rfl (fun ht => ?_) fun _ => rfl
  obtain ⟨sid, hsid⟩ := Option.ne_none_iff_exists'.mp (h ht)
  rw [hsid]
  rfl

theorem ClassIdWhole.isSome_eq {p : Packet} (h : ClassIdWhole p) : (Packet.classId? p).isSome = p.oui.isSome := by
  obtain ⟨ho, hi, hc⟩ | ⟨ho, hi, hc⟩ := (classIdWhole_iff p).mp h
  · rw [ho, classId?_isSome_iff]
    exact ⟨ho, hi, hc⟩
  · simp [Packet.classId?, ho]

theorem ClassIdWhole.bytes_eq {p : Packet} (h : ClassIdWhole p) : classIdBytes p =
    if p.oui.isSome then cidEnc ⟨p.oui.getD 0, p.infoClass.getD 0, p.packetClass.getD 0⟩ else [] := by
  obtain ⟨ho, hi, hc⟩ | ⟨ho, hi, hc⟩ := (classIdWhole_iff p).mp h
  · obtain ⟨o, ho⟩ := Option.isSome_iff_exists.mp ho
    obtain ⟨i, hi⟩ := Option.isSome_iff_exists.mp hi
    obtain ⟨c, hc⟩ := Option.isSome_iff_exists.mp hc
    simp [classIdBytes, Packet.classId?, ho, hi, hc]
  · simp [classIdBytes, Packet.classId?, ho]

theorem Encodable.timestampBytes_eq {p : Packet} (h : Encodable p) : timestampBytes p =
    .ok (secondsBytes p.tsi (p.timestamp.getD 0) ++ fractionBytes p.tsf (p.timestamp.getD 0)) := by
  cases ht : p.timestamp with
  | none =>
    have hkind : p.tsi = 0 ∧ p.tsf = 0 := by
      by_contra hk
      exact h.timestamp (not_and_or.mp hk) ht
    simp [timestampBytes, ht, secondsBytes, fractionBytes, hkind]
  | some t =>
    have hsec := h.seconds
    rw [ht] at hsec
    simp only [timestampBytes, ht]
    rw [tsEnc_eq, if_neg fun hr => (hsec hr.1).not_ge hr.2]
    rfl

/-- PKT.ENC writes the parts one after the other. -/
theorem Encodable.pktEnc_eq {p : Packet} (h : Encodable p) (l : Layout) :
    pktEnc l p = .ok (packetParts l p).bytes := by
  rw [pktEnc, (pktEncError_eq_none_iff p).mpr h]
  simp only [h.timestampBytes_eq, PacketParts.bytes, packetParts, List.append_assoc]

theorem Encodable.fits {p : Packet} (h : Encodable p) (l : Layout) (n : Nat) :
    (packetParts l p).Fits (Packet.toHeader p n) where
  streamId := by
    rw [packetParts, streamIdBytes_eq h.streamId, apply_ite List.length, be_length]
    rfl
  classId := by
    have hlen (c : ClassId) : (cidEnc c).length = 8 := by rw [cidEnc_eq_bytes]; rfl
    rw [packetParts, h.classId.bytes_eq, apply_ite List.length, hlen, ← h.classId.isSome_eq]
    rfl
  seconds := by
    rw [packetParts, secondsBytes, apply_ite List.length, be_length]
    rfl
  fraction := by
    rw [packetParts, fractionBytes, apply_ite List.length, be_length]
    rfl
  trailer := by
    cases ht : p.trailer <;> simp [packetParts, trailerBytes, trailerLen, Packet.toHeader, ht]

/-- The length law of R119. -/
theorem Encodable.bytes_length {p : Packet} (h : Encodable p) (l : Layout) :
    (packetParts l p).bytes.length = 4 * pktSize p := by
  have hsize : pktSize p = prefixWords p.packetType (Packet.classId? p).isSome p.tsi p.tsf + p.data.length / 4
      + p.trailer.isSome.toNat := by
    rw [pktSize]
    cases p.trailer <;> rfl
  have hlen : (packetParts l p).bytes.length = 4 * (prefixWords p.packetType (Packet.classId? p).isSome p.tsi p.tsf
      + p.trailer.isSome.toNat) + p.data.length := (h.fits l 0).bytes_length
  have haligned := h.aligned
  omega

theorem exec_pktEnc (p : Packet) (s : State) :
    exec (.pktEnc p) s = .next { s with out := resultOf .bytes (pktEnc s.params.layout p) } := rfl

theorem exec_pktEnc_of_error {p : Packet} {e : ErrCode} (s : State) (h : pktEncError p = some e) :
    exec (.pktEnc p) s = .next { s with out := .error e } := by
  rw [exec_pktEnc, pktEnc_of_error h]
  rfl

/-- Settles O16: the tests one after the other, and for an encodable Packet its parts. -/
theorem pktEncFollowsItsOrder : Obligations.PktEncFollowsItsOrder := by
  intro p s all noneOf
  refine ⟨fun hall hnone => ?classId, fun hcid => ?_⟩
  case classId =>
    refine exec_pktEnc_of_error s (pktEncError_of_partial_classId fun h => ?_)
    exact ((classIdWhole_iff p).mp h).elim hall hnone
  replace hcid : ClassIdWhole p := (classIdWhole_iff p).mpr hcid
  refine ⟨fun ht h => exec_pktEnc_of_error s (pktEncError_of_streamId_missing hcid ht h), fun hsid => ?_⟩
  refine ⟨fun hk h => exec_pktEnc_of_error s (pktEncError_of_timestamp_missing hcid hsid hk h), fun hts => ?_⟩
  have herror := pktEncError_of_present hcid hsid hts
  refine ⟨fun t htsi ht hlarge => ?tsRange, fun hrange => ?_⟩
  case tsRange => exact exec_pktEnc_of_error s (by rw [herror, if_pos ⟨htsi, by rwa [ht]⟩])
  have hseconds : p.tsi ≠ 0 → p.timestamp.getD 0 / 10 ^ 12 < 2 ^ 32 := fun htsi => by
    obtain ⟨t, ht⟩ := Option.ne_none_iff_exists'.mp (hts (.inl htsi))
    rw [ht]
    exact hrange t htsi ht
  rw [if_neg fun h => (hseconds h.1).not_ge h.2] at herror
  refine ⟨fun hragged => exec_pktEnc_of_error s (by rw [herror, if_pos hragged]), fun haligned => ?_⟩
  rw [if_neg (not_not.mpr haligned)] at herror
  refine ⟨fun hlong => exec_pktEnc_of_error s (by rw [herror, if_pos hlong]), fun hsize => ?_⟩
  have h : Encodable p := ⟨hcid, hsid, hts, hseconds, haligned, hsize⟩
  refine ⟨_, by rw [exec_pktEnc, h.pktEnc_eq]; rfl, h.bytes_length _, ?_⟩
  rw [PacketParts.bytes, packetParts, streamIdBytes_eq hsid, hcid.bytes_eq, Packet.toHeader, hcid.isSome_eq,
    trailerBytes]
  cases p.trailer <;> rfl

/-! ### PKT.DEC (R120, R121) -/

/-- The Header word that bytes start with (R68). -/
def headerIn (l : Layout) (b : Bytes) : Header := hdrDec l (BitVec.ofNat 32 (ube (slice b 0 4)))

theorem pktDecError_eq (l : Layout) (b : Bytes) : pktDecError l b =
    if b.length < 4 then some .decShort
    else if b.length % 4 ≠ 0 then some .decUnaligned
    else if 4 * (headerIn l b).size.toNat ≠ b.length then some .decSizeMismatch
    else if (headerIn l b).size.toNat < prefixWords (headerIn l b).packetType (headerIn l b).hasClassId
        (headerIn l b).tsi (headerIn l b).tsf + (headerIn l b).hasTrailer.toNat then some .decTruncated
    else none := rfl

/-- What R121 asks of bytes. -/
structure Acceptable (l : Layout) (b : Bytes) : Prop where
  long : 4 ≤ b.length
  aligned : b.length % 4 = 0
  size : 4 * (headerIn l b).size.toNat = b.length
  words : prefixWords (headerIn l b).packetType (headerIn l b).hasClassId (headerIn l b).tsi (headerIn l b).tsf
    + (headerIn l b).hasTrailer.toNat ≤ (headerIn l b).size.toNat

theorem pktDecError_eq_none_iff (l : Layout) (b : Bytes) : pktDecError l b = none ↔ Acceptable l b := by
  rw [pktDecError_eq]
  constructor
  · intro h
    split_ifs at h with hshort hragged hsize hwords
    exact ⟨not_lt.mp hshort, not_not.mp hragged, not_not.mp hsize, not_lt.mp hwords⟩
  · rintro ⟨hlong, haligned, hsize, hwords⟩
    rw [if_neg hlong.not_gt, if_neg (not_not.mpr haligned), if_neg (not_not.mpr hsize), if_neg hwords.not_gt]

theorem pktDec_of_error {l : Layout} {b : Bytes} {e : ErrCode} (h : pktDecError l b = some e) :
    pktDec l b = .error e := by
  rw [pktDec, h]

theorem pktDec_eq_ok_iff (l : Layout) (b : Bytes) (p : Packet) :
    pktDec l b = .ok p ↔ Acceptable l b ∧ pktFields l b = p := by
  rw [← pktDecError_eq_none_iff, pktDec]
  cases pktDecError l b <;> simp

theorem exec_pktDec (b : Bytes) (s : State) :
    exec (.pktDec b) s = .next { s with out := resultOf .packet (pktDec s.params.layout b) } := rfl

/-- Settles O17: the tests one after the other. -/
theorem pktDecRefusals : Obligations.PktDecRefusals := by
  intro b s h words
  have hwords : prefixWords h.packetType h.hasClassId h.tsi h.tsf + h.hasTrailer.toNat = words := by
    rw [prefixWords_eq, ite_eq_mul_toNat]
  have hrefuse {e : ErrCode} (he : pktDecError s.params.layout b = some e) :
      exec (.pktDec b) s = .next { s with out := .error e } := by
    rw [exec_pktDec, pktDec_of_error he]
    rfl
  refine ⟨fun hshort => hrefuse ?_, fun hlong hragged => hrefuse ?_, fun hlong haligned hsize => hrefuse ?_,
    fun hlong haligned hsize htrunc => hrefuse ?_, fun hlong haligned hsize hfit => ?_⟩
  · rw [pktDecError_eq, if_pos hshort]
  · rw [pktDecError_eq, if_neg hlong.not_gt, if_pos hragged]
  · rw [pktDecError_eq, if_neg hlong.not_gt, if_neg (not_not.mpr haligned)]
    exact if_pos hsize
  · rw [pktDecError_eq, if_neg hlong.not_gt, if_neg (not_not.mpr haligned)]
    exact (if_neg (not_not.mpr hsize)).trans (if_pos (hwords ▸ htrunc))
  · have hok := (pktDec_eq_ok_iff s.params.layout b _).mpr ⟨⟨hlong, haligned, hsize, hwords ▸ hfit⟩, rfl⟩
    refine ⟨_, hok, ?_⟩
    rw [exec_pktDec, hok]
    rfl

end Sys2Proof.Machine
end

section
/-! PROOF. O19: a packet is decoded by reading its parts. What PKT.DEC takes out of bytes put together from parts are
those parts, and each part of a self-consistent Packet is read back as the field it was written from. -/

namespace Sys2Proof.Machine

/-! ### Reading parts (R68, R120) -/

/-- The Packet read from its parts. -/
def PacketParts.packet (l : Layout) (q : PacketParts) : Packet :=
  let h := hdrDec l q.header
  { packetType := h.packetType
    tsi := h.tsi
    tsf := h.tsf
    tsm := if h.packetType ∈ Config.contextTypes then some h.tsm else none
    count := h.count
    streamId := if h.packetType = 1 then some (BitVec.ofNat 32 (ube q.streamId)) else none
    timestamp := tsDec (if h.tsi ≠ 0 then some (BitVec.ofNat 32 (ube q.seconds)) else none)
      (if h.tsf ≠ 0 then some (BitVec.ofNat 64 (ube q.fraction)) else none)
    oui := if h.hasClassId then some (cidDec q.classId).oui else none
    infoClass := if h.hasClassId then some (cidDec q.classId).infoClass else none
    packetClass := if h.hasClassId then some (cidDec q.classId).packetClass else none
    data := q.data
    trailer := if h.hasTrailer then some (trlDec l (BitVec.ofNat 32 (ube q.trailer))) else none }

theorem slice_of_eq_append {b u m v : Bytes} {off n : Nat} (hb : b = u ++ m ++ v) (hoff : u.length = off)
    (hn : m.length = n) : slice b off n = m := by
  rw [slice, hb, List.append_assoc, List.drop_left' hoff, List.take_left' hn]

theorem ofNat_ube_slice_header (q : PacketParts) : BitVec.ofNat 32 (ube (slice q.bytes 0 4)) = q.header := by
  have hslice : slice q.bytes 0 4 = be 4 q.header.toNat := by
    refine slice_of_eq_append (u := []) (v := q.streamId ++ q.classId ++ q.seconds ++ q.fraction ++ q.data ++ q.trailer)
      ?_ rfl (be_length 4 _)
    simp only [PacketParts.bytes, List.append_assoc, List.nil_append]
  rw [hslice, ofNat_ube_be _ le_rfl]

/-- An optional field depends on what it is read from only where it is there. -/
theorem ite_some_congr {α β : Type} {c : Prop} [Decidable c] (f : β → α) {x y : β} (h : c → x = y) :
    (if c then some (f x) else none) = if c then some (f y) else none :=
  if_ctx_congr Iff.rfl (fun hc => by rw [h hc]) fun _ => rfl

/-- Where the parts lie in the bytes (R68). -/
theorem PacketParts.Fits.slices {q : PacketParts} {h : Header} (hq : q.Fits h) :
    let oCid := 4 + streamIdLen h.packetType
    let oSec := oCid + classIdLen h.hasClassId
    let oFrac := oSec + secondsLen h.tsi
    let oData := oFrac + fractionLen h.tsf
    let stop := q.bytes.length - trailerLen h.hasTrailer
    slice q.bytes 4 (streamIdLen h.packetType) = q.streamId ∧
      slice q.bytes oCid (classIdLen h.hasClassId) = q.classId ∧
      slice q.bytes oSec (secondsLen h.tsi) = q.seconds ∧
      slice q.bytes oFrac (fractionLen h.tsf) = q.fraction ∧
      slice q.bytes oData (stop - oData) = q.data ∧
      slice q.bytes stop (trailerLen h.hasTrailer) = q.trailer := by
  intro oCid oSec oFrac oData stop
  have hlen := hq.bytes_length
  rw [four_mul_words] at hlen
  obtain ⟨hsid, hcid, hsec, hfrac, htrl⟩ := hq
  have hstop : stop = oData + q.data.length := by
    simp only [stop, oData, oFrac, oSec, oCid]
    omega
  let w := be 4 q.header.toNat
  have h1 : (w ++ q.streamId).length = oCid := by simp [w, hsid, oCid]
  have h2 : (w ++ q.streamId ++ q.classId).length = oSec := by rw [List.length_append, h1, hcid]
  have h3 : (w ++ q.streamId ++ q.classId ++ q.seconds).length = oFrac := by rw [List.length_append, h2, hsec]
  have h4 : (w ++ q.streamId ++ q.classId ++ q.seconds ++ q.fraction).length = oData := by
    rw [List.length_append, h3, hfrac]
  have h5 : (w ++ q.streamId ++ q.classId ++ q.seconds ++ q.fraction ++ q.data).length = stop := by
    rw [List.length_append, h4, hstop]
  refine ⟨slice_of_eq_append (u := w) (v := q.classId ++ q.seconds ++ q.fraction ++ q.data ++ q.trailer) ?_
      (be_length 4 _) hsid,
    slice_of_eq_append (v := q.seconds ++ q.fraction ++ q.data ++ q.trailer) ?_ h1 hcid,
    slice_of_eq_append (v := q.fraction ++ q.data ++ q.trailer) ?_ h2 hsec,
    slice_of_eq_append (v := q.data ++ q.trailer) ?_ h3 hfrac,
    slice_of_eq_append (v := q.trailer) rfl h4 (by omega),
    slice_of_eq_append (v := []) (List.append_nil _).symm h5 htrl⟩
  all_goals simp only [PacketParts.bytes, List.append_assoc, w]

/-- PKT.DEC's offsets are those at which the parts lie. -/
theorem PacketParts.Fits.pktFields_bytes {l : Layout} {q : PacketParts} (hq : q.Fits (hdrDec l q.header)) :
    pktFields l q.bytes = q.packet l := by
  obtain ⟨hsid, hcid, hsec, hfrac, hdata, htrl⟩ := hq.slices
  set h := hdrDec l q.header with hh
  have hS : (if h.packetType = Config.ptDataWithId then 4 else 0) = streamIdLen h.packetType := rfl
  have hC : (if h.hasClassId = true then 8 else 0) = classIdLen h.hasClassId := rfl
  have hI : (if h.tsi ≠ Config.tsiNone then 4 else 0) = secondsLen h.tsi := ite_not _ _ _
  have hF : (if h.tsf ≠ Config.tsfNone then 8 else 0) = fractionLen h.tsf := ite_not _ _ _
  have hT : 4 * h.hasTrailer.toNat = trailerLen h.hasTrailer := (ite_eq_mul_toNat 4 h.hasTrailer).symm
  simp only [pktFields, ofNat_ube_slice_header, ← hh, hS, hC, hI, hF, hT, PacketParts.packet, Packet.mk.injEq,
    true_and]
  have hcid8 (hc : h.hasClassId = true) : slice q.bytes (4 + streamIdLen h.packetType) 8 = q.classId :=
    (congrArg (slice q.bytes _) (if_pos hc)).symm.trans hcid
  refine ⟨ite_some_congr (fun x => BitVec.ofNat 32 (ube x)) fun ht => ?streamId,
    congrArg₂ tsDec (ite_some_congr (fun x => BitVec.ofNat 32 (ube x)) fun hi => ?seconds)
      (ite_some_congr (fun x => BitVec.ofNat 64 (ube x)) fun hf => ?fraction),
    ite_some_congr (fun x => (cidDec x).oui) hcid8, ite_some_congr (fun x => (cidDec x).infoClass) hcid8,
    ite_some_congr (fun x => (cidDec x).packetClass) hcid8, hdata,
    ite_some_congr (fun x => trlDec l (BitVec.ofNat 32 (ube x))) fun ht => ?trailer⟩
  case streamId => exact (congrArg (slice q.bytes _) (if_pos ht)).symm.trans hsid
  case seconds => exact (congrArg (slice q.bytes _) (if_neg hi)).symm.trans hsec
  case fraction => exact (congrArg (slice q.bytes _) (if_neg hf)).symm.trans hfrac
  case trailer => exact (congrArg (slice q.bytes _) (if_pos ht)).symm.trans htrl

/-! ### The parts of a self-consistent Packet (R114, R122) -/

theorem hdrDec_hdrEnc (l : Layout) (h : Header) : hdrDec l (hdrEnc l h) = h := hdrDecFields.2.1 l h

theorem trlDec_trlEnc (l : Layout) (t : Trailer) : trlDec l (trlEnc l t) = t := trailerWords.2.2.1 l t

/-- Two fields of a value that lie side by side. -/
theorem extractLsb'_append {w : Nat} (v : BitVec w) (lo m n : Nat) :
    v.extractLsb' (lo + n) m ++ v.extractLsb' lo n = v.extractLsb' lo (m + n) :=
  BitVec.extractLsb'_append_extractLsb'_eq_extractLsb' rfl

theorem cidDec_cidEnc (c : ClassId) : cidDec (cidEnc c) = c := by
  have hhigh : c.oui.extractLsb' 16 8 ++ c.oui.extractLsb' 8 8 = c.oui.extractLsb' 8 16 :=
    extractLsb'_append c.oui 8 8 8
  have houi : c.oui.extractLsb' 8 16 ++ c.oui.extractLsb' 0 8 = c.oui :=
    (extractLsb'_append c.oui 0 16 8).trans BitVec.extractLsb'_eq_self
  have hpart (v : BitVec 16) : v.extractLsb' 8 8 ++ v.extractLsb' 0 8 = v :=
    (extractLsb'_append v 0 8 8).trans BitVec.extractLsb'_eq_self
  rw [cidEnc_eq_bytes, cidDec_bytes, hhigh, houi, hpart, hpart]

/-- A field that is there exactly under `c`, read back under `c`. -/
theorem ite_some_getD {α : Type} {o : Option α} {c : Prop} [Decidable c] (h : o.isSome = true ↔ c) (d : α) :
    (if c then some (o.getD d) else none) = o := by
  cases o with
  | none => exact if_neg (by simpa using h)
  | some a => exact if_pos (h.mp rfl)

theorem ClassIdWhole.infoClass_isSome_iff {p : Packet} (h : ClassIdWhole p) :
    p.infoClass.isSome = true ↔ p.oui.isSome = true := by
  obtain ⟨ho, hi, -⟩ | ⟨ho, hi, -⟩ := (classIdWhole_iff p).mp h <;> simp [ho, hi]

theorem ClassIdWhole.packetClass_isSome_iff {p : Packet} (h : ClassIdWhole p) :
    p.packetClass.isSome = true ↔ p.oui.isSome = true := by
  obtain ⟨ho, -, hc⟩ | ⟨ho, -, hc⟩ := (classIdWhole_iff p).mp h <;> simp [ho, hc]

theorem timestamp_of_packetParts {p : Packet} (hp : SelfConsistent p) (l : Layout) :
    tsDec (if p.tsi ≠ 0 then some (BitVec.ofNat 32 (ube (packetParts l p).seconds)) else none)
      (if p.tsf ≠ 0 then some (BitVec.ofNat 64 (ube (packetParts l p).fraction)) else none) = p.timestamp := by
  have hencodable := (pktEncError_eq_none_iff p).mp hp.encodable
  have hsec (hi : p.tsi ≠ 0) : ube (packetParts l p).seconds = p.timestamp.getD 0 / 10 ^ 12 := by
    rw [packetParts, secondsBytes, if_neg hi]
    exact ube_be_of_lt (hencodable.seconds hi)
  have hfrac (hf : p.tsf ≠ 0) : ube (packetParts l p).fraction = p.timestamp.getD 0 % 10 ^ 12 := by
    rw [packetParts, fractionBytes, if_neg hf]
    exact ube_be_of_lt ((Nat.mod_lt _ (by decide)).trans (by decide))
  rw [ite_some_congr (BitVec.ofNat 32) hsec, ite_some_congr (BitVec.ofNat 64) hfrac]
  by_cases hkind : p.tsi = 0 ∧ p.tsf = 0
  · rw [hp.timestamp.mpr hkind, if_neg (not_not.mpr hkind.1), if_neg (not_not.mpr hkind.2)]
    rfl
  · obtain ⟨t, ht⟩ := Option.ne_none_iff_exists'.mp (mt hp.timestamp.mp hkind)
    have hseconds := hencodable.seconds
    have hnoSeconds := hp.noSeconds
    have hnoFraction := hp.noFraction
    rw [ht] at hseconds hnoSeconds hnoFraction ⊢
    exact tsDec_of_words hkind hseconds hnoSeconds hnoFraction

/-- Each field is read back from its part. -/
theorem packet_packetParts {p : Packet} (hp : SelfConsistent p) (l : Layout) : (packetParts l p).packet l = p := by
  have hencodable := (pktEncError_eq_none_iff p).mp hp.encodable
  have hh : hdrDec l (packetParts l p).header = Packet.toHeader p (pktSize p) := hdrDec_hdrEnc l _
  have hwhole := hencodable.classId
  have hcid (h : p.oui.isSome = true) : cidDec (packetParts l p).classId =
      ⟨p.oui.getD 0, p.infoClass.getD 0, p.packetClass.getD 0⟩ := by
    rw [packetParts, hwhole.bytes_eq, if_pos h, cidDec_cidEnc]
  refine Eq.trans ?_ (rfl : Packet.mk p.packetType p.tsi p.tsf p.tsm p.count p.streamId p.timestamp p.oui p.infoClass
    p.packetClass p.data p.trailer = p)
  simp only [PacketParts.packet, hh, Packet.toHeader, hwhole.isSome_eq, Packet.mk.injEq, true_and]
  refine ⟨ite_some_getD hp.tsm false, ?streamId, timestamp_of_packetParts hp l, ?oui, ?infoClass, ?packetClass, rfl,
    ?trailer⟩
  case streamId =>
    have hsid (ht : p.packetType = 1) :
        BitVec.ofNat 32 (ube (packetParts l p).streamId) = p.streamId.getD 0 := by
      rw [packetParts, streamIdBytes_eq hencodable.streamId, if_pos ht, ofNat_ube_be _ le_rfl]
    exact (ite_some_congr id hsid).trans (ite_some_getD hp.streamId 0)
  case oui => exact (ite_some_congr ClassId.oui hcid).trans (ite_some_getD Iff.rfl 0)
  case infoClass =>
    exact (ite_some_congr ClassId.infoClass hcid).trans (ite_some_getD hwhole.infoClass_isSome_iff 0)
  case packetClass =>
    exact (ite_some_congr ClassId.packetClass hcid).trans (ite_some_getD hwhole.packetClass_isSome_iff 0)
  case trailer =>
    cases ht : p.trailer with
    | none => rfl
    | some t =>
      have htrl : (packetParts l p).trailer = be 4 (trlEnc l t).toNat := by rw [packetParts, trailerBytes, ht]
      rw [htrl, ofNat_ube_be _ le_rfl, trlDec_trlEnc]
      rfl

/-- Settles O19: the bytes are those of the Packet's parts, PKT.DEC accepts them, and reads the parts back. -/
theorem packetRoundTrip : Obligations.PacketRoundTrip := by
  intro l p hp
  have hencodable := (pktEncError_eq_none_iff p).mp hp.encodable
  have hlen := hencodable.bytes_length l
  have hh : hdrDec l (packetParts l p).header = Packet.toHeader p (pktSize p) := hdrDec_hdrEnc l _
  refine ⟨_, hencodable.pktEnc_eq l, hlen, ?_⟩
  have hfits : (packetParts l p).Fits (hdrDec l (packetParts l p).header) := hh ▸ hencodable.fits l _
  have hin : headerIn l (packetParts l p).bytes = Packet.toHeader p (pktSize p) := by
    rw [headerIn, ofNat_ube_slice_header, hh]
  have hsize : (Packet.toHeader p (pktSize p)).size.toNat = pktSize p :=
    Nat.mod_eq_of_lt (Nat.lt_succ_of_le hencodable.size)
  have hwords := hfits.bytes_length
  have hfields := four_mul_words (Packet.toHeader p (pktSize p))
  rw [hh] at hwords
  rw [pktDec_eq_ok_iff, hfits.pktFields_bytes, packet_packetParts hp]
  refine ⟨⟨by omega, by omega, ?size, ?words⟩, rfl⟩
  case size => rw [hin, hsize, hlen]
  case words =>
    rw [hin, hsize]
    omega

end Sys2Proof.Machine
end

section
/-! PROOF. O20: what PKT.ENC writes for a Packet that PKT.DEC read. The bytes accepted are their parts put together, and
each part is written anew from the field that was read from it. -/

namespace Sys2Proof.Machine

/-! ### An optional part -/

theorem ite_nil_eq {c : Prop} [Decidable c] {x y : Bytes} {n : Nat} (hlen : x.length = if c then n else 0)
    (h : c → y = x) : (if c then y else []) = x := by
  split
  · next hc => exact h hc
  · next hc => exact (List.eq_nil_of_length_eq_zero (hlen.trans (if_neg hc))).symm

theorem ite_eq_nil {c : Prop} [Decidable c] {x y : Bytes} {n : Nat} (hlen : x.length = if c then 0 else n)
    (h : ¬ c → y = x) : (if c then [] else y) = x := by
  rw [← ite_not] at hlen ⊢
  exact ite_nil_eq hlen h

/-! ### The parts of accepted bytes (R68, R120) -/

/-- The parts of bytes at the offsets that their Header gives. -/
def partsOf (l : Layout) (b : Bytes) : PacketParts :=
  let h := headerIn l b
  let oCid := 4 + streamIdLen h.packetType
  let oSec := oCid + classIdLen h.hasClassId
  let oFrac := oSec + secondsLen h.tsi
  let oData := oFrac + fractionLen h.tsf
  let stop := b.length - trailerLen h.hasTrailer
  { header := BitVec.ofNat 32 (ube (slice b 0 4))
    streamId := slice b 4 (streamIdLen h.packetType)
    classId := slice b oCid (classIdLen h.hasClassId)
    seconds := slice b oSec (secondsLen h.tsi)
    fraction := slice b oFrac (fractionLen h.tsf)
    data := slice b oData (stop - oData)
    trailer := slice b stop (trailerLen h.hasTrailer) }

theorem slice_append_slice (b : Bytes) (off m n : Nat) :
    slice b off m ++ slice b (off + m) n = slice b off (m + n) := by
  rw [slice, slice, slice, List.take_add, List.drop_drop]

theorem slice_all (b : Bytes) : slice b 0 b.length = b := List.take_length

section Accepted
variable {l : Layout} {b : Bytes} (hb : Acceptable l b)
include hb

theorem Acceptable.fields_le : 4 + streamIdLen (headerIn l b).packetType + classIdLen (headerIn l b).hasClassId
    + secondsLen (headerIn l b).tsi + fractionLen (headerIn l b).tsf + trailerLen (headerIn l b).hasTrailer
      ≤ b.length := by
  rw [← four_mul_words, ← hb.size]
  exact Nat.mul_le_mul_left 4 hb.words

theorem Acceptable.fits_partsOf : (partsOf l b).Fits (headerIn l b) := by
  have hlen := hb.fields_le
  exact ⟨slice_length (by omega), slice_length (by omega), slice_length (by omega), slice_length (by omega),
    slice_length (by omega)⟩

/-- Accepted bytes are their parts. -/
theorem Acceptable.bytes_partsOf : (partsOf l b).bytes = b := by
  have hheader : be 4 (partsOf l b).header.toNat = slice b 0 4 :=
    be_ofNat_ube (slice_length (by have := hb.long; omega)) (by decide)
  have hlen := hb.fields_le
  rw [PacketParts.bytes, hheader]
  simp only [partsOf]
  have hslices (o m n : Nat) (h : o = m) : slice b 0 m ++ slice b o n = slice b 0 (m + n) := by
    rw [← slice_append_slice, h, Nat.zero_add]
  rw [hslices _ _ _ rfl, hslices _ _ _ rfl, hslices _ _ _ rfl, hslices _ _ _ rfl, hslices _ _ _ rfl,
    hslices _ _ _ (by omega)]
  exact (congrArg (slice b 0) (by omega)).trans (slice_all b)

theorem Acceptable.pktFields_eq : pktFields l b = (partsOf l b).packet l :=
  (congrArg (pktFields l) hb.bytes_partsOf).symm.trans hb.fits_partsOf.pktFields_bytes

theorem Acceptable.data_aligned : (partsOf l b).data.length % 4 = 0 := by
  have hlen := hb.fits_partsOf.bytes_length
  rw [hb.bytes_partsOf] at hlen
  have := hb.aligned
  omega

end Accepted

/-! ### Encoding the Packet read from parts -/

theorem classId?_packet (l : Layout) (q : PacketParts) : Packet.classId? (q.packet l) =
    if (hdrDec l q.header).hasClassId then some (cidDec q.classId) else none := by
  simp only [Packet.classId?, PacketParts.packet]
  cases (hdrDec l q.header).hasClassId <;> rfl

theorem classIdWhole_packet (l : Layout) (q : PacketParts) : ClassIdWhole (q.packet l) := by
  rw [classIdWhole_iff]
  simp only [PacketParts.packet]
  cases (hdrDec l q.header).hasClassId <;> simp

theorem isSome_ite_some {α : Type} (c : Bool) (a : α) : (if c = true then some a else none).isSome = c := by
  cases c <;> rfl

theorem oui_isSome_packet (l : Layout) (q : PacketParts) :
    (q.packet l).oui.isSome = (hdrDec l q.header).hasClassId := isSome_ite_some _ _

/-- The parts' words. -/
theorem four_mul_pktSize_packet {l : Layout} {q : PacketParts} (hq : q.Fits (hdrDec l q.header))
    (haligned : q.data.length % 4 = 0) : 4 * pktSize (q.packet l) = q.bytes.length := by
  have hcid : (Packet.classId? (q.packet l)).isSome = (hdrDec l q.header).hasClassId := by
    rw [classId?_packet, isSome_ite_some]
  have htrl : (q.packet l).trailer.isSome = (hdrDec l q.header).hasTrailer := isSome_ite_some _ _
  have hsize : pktSize (q.packet l) = prefixWords (hdrDec l q.header).packetType (hdrDec l q.header).hasClassId
      (hdrDec l q.header).tsi (hdrDec l q.header).tsf + q.data.length / 4 + (hdrDec l q.header).hasTrailer.toNat := by
    rw [pktSize, hcid, htrl, ite_eq_mul_toNat, Nat.one_mul]
    rfl
  have hlen := hq.bytes_length
  omega

/-! ### Each part written anew -/

/-- The position of the `tsm` bit (R60, R61). -/
def matchFlagBit : Layout → Nat
  | .vita => 24
  | .listed => 7

/-- 1 in every bit of the Header but `tsm`. -/
def matchFlagMask : Layout → Word
  | .vita => 0xFEFFFFFF
  | .listed => 0xFFFFFF7F

theorem readHeader_and_matchFlagMask (l : Layout) (w : Word) :
    readHeader l (w &&& matchFlagMask l) = { readHeader l w with tsm := false } := by
  cases l <;> simp only [readHeader, matchFlagMask, BitVec.extractLsb'_and, BitVec.getLsbD_and, Header.mk.injEq] <;>
    exact ⟨BitVec.and_allOnes, Bool.and_true _, Bool.and_true _, Bool.and_false _, BitVec.and_allOnes,
      BitVec.and_allOnes, BitVec.and_allOnes, BitVec.and_allOnes⟩

/-- What PKT.ENC keeps of a Header word that PKT.DEC read (R122). -/
def keptHeader (l : Layout) (w : Word) : Word :=
  w &&& headerMask l &&& (if (hdrDec l w).packetType ∈ Config.contextTypes then 0xFFFFFFFF else matchFlagMask l)

theorem hdrEnc_hdrDec (l : Layout) (w : Word) : hdrEnc l (hdrDec l w) = w &&& headerMask l := by
  rw [← readHeader_eq_hdrDec, hdrEnc_eq_headerWord, headerWord_readHeader]

theorem hdrEnc_hdrDec_without_matchFlag (l : Layout) (w : Word) :
    hdrEnc l { hdrDec l w with tsm := false } = w &&& headerMask l &&& matchFlagMask l := by
  rw [← readHeader_eq_hdrDec, ← readHeader_and_matchFlagMask, readHeader_eq_hdrDec, hdrEnc_hdrDec, BitVec.and_assoc,
    BitVec.and_comm (matchFlagMask l), ← BitVec.and_assoc]

theorem hdrEnc_eq_keptHeader (l : Layout) (w : Word) :
    hdrEnc l { hdrDec l w with
      tsm := if (hdrDec l w).packetType ∈ Config.contextTypes then (hdrDec l w).tsm else false } = keptHeader l w := by
  rw [keptHeader]
  split
  · rw [hdrEnc_hdrDec]
    exact BitVec.and_allOnes.symm
  · exact hdrEnc_hdrDec_without_matchFlag l w

/-- What PKT.ENC keeps of a Trailer word that PKT.DEC read: the count bits of a Trailer without a count are cleared
(R122). -/
def keptTrailer (l : Layout) (x : Word) : Word :=
  match l with
  | .vita => if x.getLsbD 7 then x else x &&& 0xFFFFFF80
  | .listed => if x.getLsbD 24 then x else x &&& 0x01FFFFFF

theorem trlEnc_trlDec (l : Layout) (x : Word) : trlEnc l (trlDec l x) = keptTrailer l x := by
  have hlaw := trailerWords.2.2.2 l
  cases l with
  | vita =>
    rw [keptTrailer]
    split
    · next hen => exact (hlaw x).mpr (.inr hen)
    · next hen =>
      have hsame : trlDec .vita (x &&& 0xFFFFFF80) = trlDec .vita x := by
        simp only [trlDec_vita, trailerOfFields, BitVec.extractLsb'_and, BitVec.getLsbD_and,
          Bool.eq_false_of_not_eq_true hen, Trailer.mk.injEq]
        exact ⟨BitVec.and_allOnes, BitVec.and_allOnes, rfl⟩
      rw [← hsame]
      exact (hlaw _).mpr (.inl (by rw [BitVec.extractLsb'_and]; exact BitVec.and_zero))
  | listed =>
    rw [keptTrailer]
    split
    · next hen => exact (hlaw x).mpr (.inr hen)
    · next hen =>
      have hsame : trlDec .listed (x &&& 0x01FFFFFF) = trlDec .listed x := by
        simp only [trlDec_listed, trailerOfFields, BitVec.extractLsb'_and, BitVec.getLsbD_and,
          Bool.eq_false_of_not_eq_true hen, Trailer.mk.injEq]
        exact ⟨BitVec.and_allOnes, BitVec.and_allOnes, rfl⟩
      rw [← hsame]
      exact (hlaw _).mpr (.inl (by rw [BitVec.extractLsb'_and]; exact BitVec.and_zero))

/-- The identifier's bytes come back but for the padding byte (R65, R122). -/
theorem cidEnc_cidDec {x : Bytes} (hx : x.length = 8) : cidEnc (cidDec x) = 0 :: slice x 1 7 := by
  have hbytes (c : ClassId) :
      cidEnc c = 0 :: (be 3 c.oui.toNat ++ be 2 c.infoClass.toNat ++ be 2 c.packetClass.toNat) := cidEnc_eq_bytes c
  have hdec : cidDec x = _ := (congrArg cidDec (hx ▸ slice_all x)).symm.trans (cidDec_slice (off := 0) hx.ge)
  rw [hdec, hbytes, be_ofNat_ube (slice_length (by omega)) (by decide),
    be_ofNat_ube (slice_length (by omega)) (by decide), be_ofNat_ube (slice_length (by omega)) (by decide),
    slice_append_slice, slice_append_slice]

/-- A part that is there or empty, as an optional field that counts 0 where it is absent. -/
theorem getD_ite_some_ube {w n : Nat} {kind : BitVec 2} {x : Bytes} (hw : 256 ^ n ≤ 2 ^ w)
    (hx : x.length = if kind = 0 then 0 else n) :
    ((if kind ≠ 0 then some (BitVec.ofNat w (ube x)) else none).getD 0).toNat = ube x := by
  split
  · next h =>
    rw [if_neg h] at hx
    exact Nat.mod_eq_of_lt ((ube_lt x).trans_le (hx ▸ hw))
  · next h =>
    rw [if_pos (not_not.mp h)] at hx
    rw [List.eq_nil_of_length_eq_zero hx]
    exact Nat.zero_mod _

/-- The timestamp that TS.DEC makes of the parts (R113). -/
theorem timestamp_packet {l : Layout} {q : PacketParts} (hq : q.Fits (hdrDec l q.header)) :
    (q.packet l).timestamp = if (hdrDec l q.header).tsi = 0 ∧ (hdrDec l q.header).tsf = 0 then none
      else some (ube q.seconds * 10 ^ 12 + ube q.fraction) := by
  have htsDec : (q.packet l).timestamp = _ := tsDec_eq _ _
  rw [htsDec, getD_ite_some_ube (by decide) hq.seconds, getD_ite_some_ube (by decide) hq.fraction]
  exact if_congr (by simp) rfl rfl

theorem timestamp_packet_getD {l : Layout} {q : PacketParts} (hq : q.Fits (hdrDec l q.header)) :
    (q.packet l).timestamp.getD 0 = ube q.seconds * 10 ^ 12 + ube q.fraction := by
  rw [timestamp_packet hq]
  split
  · next h =>
    have hsec : q.seconds = [] := List.eq_nil_of_length_eq_zero (hq.seconds.trans (if_pos h.1))
    have hfrac : q.fraction = [] := List.eq_nil_of_length_eq_zero (hq.fraction.trans (if_pos h.2))
    rw [hsec, hfrac]
    rfl
  · rfl

/-- Parts as PKT.ENC writes them anew (R122). -/
def PacketParts.reencoded (l : Layout) (q : PacketParts) : PacketParts :=
  let h := hdrDec l q.header
  { header := keptHeader l q.header
    streamId := q.streamId
    classId := if h.hasClassId then 0 :: slice q.classId 1 7 else []
    seconds := if h.tsi = 0 then [] else be 4 (ube q.seconds + ube q.fraction / 10 ^ 12)
    fraction := if h.tsf = 0 then [] else be 8 (ube q.fraction % 10 ^ 12)
    data := q.data
    trailer := if h.hasTrailer then be 4 (keptTrailer l (BitVec.ofNat 32 (ube q.trailer))).toNat else [] }

theorem trailerBytes_packet (l : Layout) (q : PacketParts) : trailerBytes l (q.packet l) = (q.reencoded l).trailer := by
  rw [trailerBytes, PacketParts.packet, PacketParts.reencoded]
  cases (hdrDec l q.header).hasTrailer with
  | false => rfl
  | true => simp [trlEnc_trlDec]

theorem toHeader_packet (l : Layout) (q : PacketParts) : Packet.toHeader (q.packet l) (hdrDec l q.header).size.toNat =
    { hdrDec l q.header with
      tsm := if (hdrDec l q.header).packetType ∈ Config.contextTypes then (hdrDec l q.header).tsm else false } := by
  simp only [Packet.toHeader, classId?_packet, isSome_ite_some, BitVec.ofNat_toNat, BitVec.setWidth_eq]
  simp only [PacketParts.packet, isSome_ite_some, apply_ite (Option.getD · false), Option.getD_some, Option.getD_none]

theorem streamId_packet_ne_none {l : Layout} {q : PacketParts} (ht : (q.packet l).packetType = 1) :
    (q.packet l).streamId ≠ none := by
  have hsid : (q.packet l).streamId = some _ := if_pos ht
  rw [hsid]
  exact Option.some_ne_none _

section Reencoded
variable {l : Layout} {q : PacketParts} (hq : q.Fits (hdrDec l q.header))
include hq

theorem streamIdBytes_packet : streamIdBytes (q.packet l) = q.streamId := by
  rw [streamIdBytes_eq streamId_packet_ne_none]
  refine ite_nil_eq hq.streamId fun ht => ?_
  have hsid : (q.packet l).streamId = some (BitVec.ofNat 32 (ube q.streamId)) := if_pos ht
  rw [hsid]
  exact be_ofNat_ube (hq.streamId.trans (if_pos ht)) (by decide)

theorem classIdBytes_packet : classIdBytes (q.packet l) = (q.reencoded l).classId := by
  rw [classIdBytes, classId?_packet]
  cases hc : (hdrDec l q.header).hasClassId with
  | false => simp [PacketParts.reencoded, hc]
  | true => simp [PacketParts.reencoded, hc, cidEnc_cidDec (hq.classId.trans (if_pos hc))]

theorem secondsBytes_packet : secondsBytes (q.packet l).tsi ((q.packet l).timestamp.getD 0) =
    (q.reencoded l).seconds := by
  rw [timestamp_packet_getD hq, secondsBytes, Nat.add_comm, Nat.add_mul_div_right _ _ (by decide), Nat.add_comm]
  rfl

theorem fractionBytes_packet : fractionBytes (q.packet l).tsf ((q.packet l).timestamp.getD 0) =
    (q.reencoded l).fraction := by
  rw [timestamp_packet_getD hq, fractionBytes, Nat.mul_add_mod']
  rfl

/-- What PKT.ENC writes of the Packet read from parts. -/
theorem packetParts_packet (hsize : pktSize (q.packet l) = (hdrDec l q.header).size.toNat) :
    packetParts l (q.packet l) = q.reencoded l := by
  rw [packetParts, hsize, toHeader_packet, hdrEnc_eq_keptHeader, streamIdBytes_packet hq, classIdBytes_packet hq,
    secondsBytes_packet hq, fractionBytes_packet hq, trailerBytes_packet]
  rfl

/-- The Packet read from parts has everything it announces. -/
theorem pktEncError_packet (haligned : q.data.length % 4 = 0)
    (hsize : pktSize (q.packet l) = (hdrDec l q.header).size.toNat) : pktEncError (q.packet l) =
      if (hdrDec l q.header).tsi ≠ 0 ∧ 2 ^ 32 ≤ ube q.seconds + ube q.fraction / 10 ^ 12 then some .tsRange
      else none := by
  have hts : (q.packet l).tsi ≠ 0 ∨ (q.packet l).tsf ≠ 0 → (q.packet l).timestamp ≠ none := fun hkind => by
    have hpresent : ¬ ((hdrDec l q.header).tsi = 0 ∧ (hdrDec l q.header).tsf = 0) := not_and_or.mpr hkind
    rw [timestamp_packet hq, if_neg hpresent]
    exact Option.some_ne_none _
  have hseconds : (q.packet l).timestamp.getD 0 / 10 ^ 12 = ube q.seconds + ube q.fraction / 10 ^ 12 := by
    rw [timestamp_packet_getD hq, Nat.add_comm, Nat.add_mul_div_right _ _ (by decide), Nat.add_comm]
  have hwhole : ¬ (q.packet l).data.length % 4 ≠ 0 := not_not.mpr haligned
  have hsmall : ¬ 65535 < pktSize (q.packet l) := by
    have := (hdrDec l q.header).size.isLt
    omega
  rw [pktEncError_of_present (classIdWhole_packet l q) streamId_packet_ne_none hts, hseconds,
    if_neg hwhole, if_neg hsmall]
  rfl

theorem pktEnc_packet (haligned : q.data.length % 4 = 0)
    (hsize : pktSize (q.packet l) = (hdrDec l q.header).size.toNat) : pktEnc l (q.packet l) =
      if (hdrDec l q.header).tsi ≠ 0 ∧ 2 ^ 32 ≤ ube q.seconds + ube q.fraction / 10 ^ 12 then .error .tsRange
      else .ok (q.reencoded l).bytes := by
  have herror := pktEncError_packet hq haligned hsize
  split at herror
  · next hrange => rw [pktEnc_of_error herror, if_pos hrange]
  · next hrange =>
    rw [((pktEncError_eq_none_iff _).mp herror).pktEnc_eq, packetParts_packet hq hsize, if_neg hrange]

end Reencoded

/-! ### Where nothing is lost (R122) -/

theorem keptHeader_eq_self {l : Layout} {w : Word} (hreserved : w.getLsbD (headerReservedBit l) = false)
    (hflag : (hdrDec l w).packetType ∉ Config.contextTypes → w.getLsbD (matchFlagBit l) = false) :
    keptHeader l w = w := by
  have htsm : (hdrDec l w).tsm = w.getLsbD (matchFlagBit l) := by
    rw [← readHeader_eq_hdrDec]
    cases l <;> rfl
  have hsame : (if (hdrDec l w).packetType ∈ Config.contextTypes then (hdrDec l w).tsm else false) =
      (hdrDec l w).tsm := by
    split
    · rfl
    · next hctx => rw [htsm, hflag hctx]
  rw [← hdrEnc_eq_keptHeader, hsame, hdrEnc_hdrDec, ← headerWord_readHeader,
    headerWord_readHeader_of_reserved l hreserved]

/-- The position of a Trailer's count bits (R62). -/
def trailerCountPos : Layout → Nat
  | .vita => 0
  | .listed => 25

theorem keptTrailer_eq_self {l : Layout} {x : Word}
    (hcount : (trlDec l x).contextCount = none → x.extractLsb' (trailerCountPos l) 7 = 0) : keptTrailer l x = x := by
  have hlaw := trailerWords.2.2.2 l x
  rw [← trlEnc_trlDec, hlaw]
  cases l with
  | vita =>
    rw [trlDec_vita] at hcount
    cases hen : x.getLsbD 7 with
    | true => exact .inr rfl
    | false => exact .inl (hcount (by rw [hen]; rfl))
  | listed =>
    rw [trlDec_listed] at hcount
    cases hen : x.getLsbD 24 with
    | true => exact .inr rfl
    | false => exact .inl (hcount (by rw [hen]; rfl))

theorem be_ube_of_length {b : Bytes} {n : Nat} (h : b.length = n) : be n (ube b) = b := h ▸ be_ube b

section Canonical
variable {l : Layout} {b : Bytes} (hb : Acceptable l b) (hw : CanonicalWire l b ((partsOf l b).packet l))
include hb hw

theorem fraction_lt_of_canonical : ube (partsOf l b).fraction < 10 ^ 12 := by
  by_cases hf : (headerIn l b).tsf = 0
  · rw [List.eq_nil_of_length_eq_zero (hb.fits_partsOf.fraction.trans (if_pos hf))]
    decide
  · have hlt := hw.fraction hf
    have hoff : (if ((partsOf l b).packet l).tsi ≠ Config.tsiNone then 4 else 0) = secondsLen (headerIn l b).tsi :=
      ite_not _ _ _
    have hoff' : (if ((partsOf l b).packet l).oui.isSome = true then 8 else 0) =
        classIdLen (headerIn l b).hasClassId := by
      rw [oui_isSome_packet]
      rfl
    have hpart : (partsOf l b).fraction = slice b _ 8 := congrArg (slice b _) (if_neg hf)
    rw [hoff, hoff'] at hlt
    rw [hpart]
    exact hlt

theorem header_of_canonical : keptHeader l (partsOf l b).header = (partsOf l b).header := by
  refine keptHeader_eq_self ?_ fun hctx => ?_
  · have h := hw.reserved
    cases l <;> exact h
  · have htsm : ((partsOf l b).packet l).tsm = none := if_neg hctx
    have h := hw.matchFlag htsm
    cases l <;> exact h

theorem classId_of_canonical (hc : (headerIn l b).hasClassId = true) :
    0 :: slice (partsOf l b).classId 1 7 = (partsOf l b).classId := by
  have hlen : (partsOf l b).classId.length = 8 := hb.fits_partsOf.classId.trans (if_pos hc)
  have hpad : (partsOf l b).classId.getD 0 0 = 0 := by
    have h := hw.padding ((oui_isSome_packet l _).trans hc)
    have hoff : (if ((partsOf l b).packet l).packetType = Config.ptDataWithId then 8 else 4) =
        4 + streamIdLen (headerIn l b).packetType := (apply_ite (4 + ·) _ 4 0).symm
    have hpart : (partsOf l b).classId = slice b _ 8 := congrArg (slice b _) (if_pos hc)
    rw [hoff] at h
    rw [hpart, List.getD_eq_getElem?_getD, slice, List.getElem?_take_of_lt (by decide), List.getElem?_drop,
      ← List.getD_eq_getElem?_getD]
    exact h
  obtain ⟨x, xs, hx⟩ := List.exists_cons_of_length_eq_add_one hlen
  rw [hx] at hlen hpad ⊢
  obtain rfl : x = 0 := hpad
  exact congrArg (0 :: ·) (List.take_of_length_le (Nat.succ.inj hlen).le)

theorem trailer_of_canonical (ht : (headerIn l b).hasTrailer = true) :
    keptTrailer l (BitVec.ofNat 32 (ube (partsOf l b).trailer)) = BitVec.ofNat 32 (ube (partsOf l b).trailer) := by
  have hT : trailerLen (headerIn l b).hasTrailer = 4 := if_pos ht
  have hpart : (partsOf l b).trailer = slice b (b.length - 4) 4 := by rw [← hT]; rfl
  refine keptTrailer_eq_self fun hcount => ?_
  have h := hw.noCount _ (if_pos ht) hcount
  rw [hpart]
  cases l <;> exact h

theorem reencoded_of_canonical : (partsOf l b).reencoded l = partsOf l b := by
  have hfits := hb.fits_partsOf
  have hfrac := fraction_lt_of_canonical hb hw
  refine PacketParts.ext (header_of_canonical hb hw) rfl
    (ite_nil_eq hfits.classId fun hc => classId_of_canonical hb hw hc) (ite_eq_nil hfits.seconds fun hi => ?seconds)
    (ite_eq_nil hfits.fraction fun hf => ?fraction) rfl (ite_nil_eq hfits.trailer fun ht => ?trailer)
  case seconds =>
    rw [Nat.div_eq_of_lt hfrac, Nat.add_zero]
    exact be_ube_of_length (hfits.seconds.trans (if_neg hi))
  case fraction =>
    rw [Nat.mod_eq_of_lt hfrac]
    exact be_ube_of_length (hfits.fraction.trans (if_neg hf))
  case trailer =>
    rw [trailer_of_canonical hb hw ht]
    exact be_ofNat_ube (hfits.trailer.trans (if_pos ht)) (by decide)

theorem seconds_fit_of_canonical :
    ¬ ((headerIn l b).tsi ≠ 0 ∧ 2 ^ 32 ≤ ube (partsOf l b).seconds + ube (partsOf l b).fraction / 10 ^ 12) := by
  rintro ⟨hi, hlarge⟩
  have hlt := ube_lt (partsOf l b).seconds
  rw [hb.fits_partsOf.seconds.trans (if_neg hi)] at hlt
  rw [Nat.div_eq_of_lt (fraction_lt_of_canonical hb hw), Nat.add_zero] at hlarge
  exact hlt.not_ge hlarge

end Canonical

/-- Settles O20: the Packet is the one read from the bytes' parts, PKT.ENC writes those parts anew, and on a canonical
wire each is the part it was. -/
theorem acceptedBytesReencode : Obligations.AcceptedBytesReencode := by
  intro l b p hp w h S C I F T sec frac P kept x tail
  obtain ⟨hb, rfl⟩ := (pktDec_eq_ok_iff l b p).mp hp
  have hsize : pktSize ((partsOf l b).packet l) = (headerIn l b).size.toNat := by
    have hwords := four_mul_pktSize_packet hb.fits_partsOf hb.data_aligned
    rw [hb.bytes_partsOf, ← hb.size] at hwords
    exact Nat.eq_of_mul_eq_mul_left (by decide) hwords
  have hanswer := pktEnc_packet hb.fits_partsOf hb.data_aligned hsize
  rw [hb.pktFields_eq]
  refine ⟨?_, fun hw => ?_⟩
  · have hkept : keptHeader l w = kept := by
      have hctx : h.packetType ∈ Config.contextTypes ↔ h.packetType = 4 ∨ h.packetType = 5 := by
        simp [Config.contextTypes, Config.ptContext, Config.ptExtContext]
      rw [keptHeader, if_congr hctx rfl rfl]
      cases l <;> rfl
    have hcid : (if h.hasClassId then 0 :: slice (slice b (4 + S) C) 1 7 else []) =
        if h.hasClassId then 0 :: slice b (5 + S) 7 else [] := by
      refine if_ctx_congr Iff.rfl (fun hc => ?_) fun _ => rfl
      have hC : C = 8 := if_pos hc
      rw [hC, slice_slice (by decide), Nat.add_right_comm]
    have htail : (if h.hasTrailer then be 4 (keptTrailer l (BitVec.ofNat 32 (ube (slice b (b.length - T) T)))).toNat
        else []) = if h.hasTrailer then be 4 tail.toNat else [] := by
      refine if_ctx_congr Iff.rfl (fun ht => ?_) fun _ => rfl
      have hT : T = 4 := if_pos ht
      rw [hT]
      cases l <;> rfl
    rw [hanswer]
    refine if_congr Iff.rfl rfl (congrArg Except.ok ?_)
    rw [← hkept, ← hcid, ← htail]
    rfl
  · rw [hanswer, reencoded_of_canonical hb hw, hb.bytes_partsOf]
    exact if_neg (seconds_fit_of_canonical hb hw)

end Sys2Proof.Machine
end

section
/-! PROOF. O21 to O23: the sample packer. A pair and a group of three bytes are the same 24-bit word, two 12-bit values
side by side: PACK12 writes the bytes of a pair's word, and UNPACK12 reads the two halves of a group's word. -/

namespace Sys2Proof.Machine

/-! ### One pair, one group (R69) -/

/-- The low 12 bits of a pair's components side by side, `first` in the high half (R69). -/
def pairWord (p : Pair) : BitVec 24 := p.first.setWidth 12 ++ p.second.setWidth 12

theorem and_mask12_eq_toNat_setWidth {w : Nat} (v : BitVec w) : v.toNat &&& 0xFFF = (v.setWidth 12).toNat := by
  rw [BitVec.toNat_setWidth]
  exact Nat.and_two_pow_sub_one_eq_mod v.toNat 12

theorem packPair_eq_be (p : Pair) : packPair p = be 3 (pairWord p).toNat := by
  rw [packPair, and_mask12_eq_toNat_setWidth, and_mask12_eq_toNat_setWidth, pairWord, BitVec.toNat_append]

@[simp] theorem packPair_length (p : Pair) : (packPair p).length = 3 := by rw [packPair_eq_be, be_length]

theorem packPair_eq_bytes (p : Pair) : packPair p =
    [p.first.extractLsb' 4 8, p.first.extractLsb' 0 4 ++ p.second.extractLsb' 8 4, p.second.extractLsb' 0 8] := by
  have hbytes : packPair p =
      [(pairWord p).extractLsb' 16 8, (pairWord p).extractLsb' 8 8, (pairWord p).extractLsb' 0 8] := packPair_eq_be p
  have hhigh : (pairWord p).extractLsb' 16 8 = p.first.extractLsb' 4 8 := by
    rw [pairWord, BitVec.extractLsb'_append_eq_of_le (by decide), BitVec.extractLsb'_setWidth_of_le (by decide)]
  have hmiddle : (pairWord p).extractLsb' 8 8 = p.first.extractLsb' 0 4 ++ p.second.extractLsb' 8 4 := by
    rw [pairWord, BitVec.extractLsb'_append_eq_ite, dif_pos (by decide), dif_neg (by decide),
      BitVec.extractLsb'_setWidth_of_le (by decide), BitVec.extractLsb'_setWidth_of_le (by decide)]
    rfl
  have hlow : (pairWord p).extractLsb' 0 8 = p.second.extractLsb' 0 8 := by
    rw [pairWord, BitVec.extractLsb'_append_eq_of_add_le (by decide), BitVec.extractLsb'_setWidth_of_le (by decide)]
  rw [hbytes, hhigh, hmiddle, hlow]

/-- Masking a shifted number to 12 bits takes out a 12-bit field of its low 24 bits. -/
theorem ofNat_and_mask12_eq_extractLsb' {off : Nat} (h : off + 12 ≤ 24) (v : Nat) :
    BitVec.ofNat 12 ((v >>> off) &&& 0xFFF) = (BitVec.ofNat 24 v).extractLsb' off 12 := by
  have hmask : (v >>> off) &&& 0xFFF = (v >>> off) % 2 ^ 12 := Nat.and_two_pow_sub_one_eq_mod _ 12
  refine BitVec.eq_of_getLsbD_eq fun i hi => ?_
  have hbit : off + i < 24 := (Nat.add_lt_add_left hi off).trans_le h
  rw [hmask, BitVec.getLsbD_extractLsb', BitVec.getLsbD_ofNat, BitVec.getLsbD_ofNat, Nat.testBit_mod_two_pow,
    Nat.testBit_shiftRight, decide_eq_true hi, decide_eq_true hbit]

theorem groupFirst_eq (x y z : Byte) : groupFirst x y z = (x ++ y ++ z).extractLsb' 12 12 := by
  rw [← ofNat_ube_triple]
  exact ofNat_and_mask12_eq_extractLsb' (off := 12) le_rfl _

theorem groupSecond_eq (x y z : Byte) : groupSecond x y z = (x ++ y ++ z).extractLsb' 0 12 := by
  rw [← ofNat_ube_triple]
  exact ofNat_and_mask12_eq_extractLsb' (off := 0) (by decide) _

theorem packPair_eq_triple_iff {p : Pair} {x y z : Byte} : packPair p = [x, y, z] ↔ pairWord p = x ++ y ++ z := by
  rw [packPair_eq_be, ← ofNat_ube_triple]
  constructor
  · intro h
    rw [← h, ofNat_ube_be _ (by norm_num)]
  · intro h
    rw [h, be_ofNat_ube (n := 3) rfl (by norm_num)]

/-- A pair with a group's two values has the group's word. -/
theorem packPair_eq_group {p : Pair} {x y z : Byte} (hfirst : groupFirst x y z = p.first.setWidth 12)
    (hsecond : groupSecond x y z = p.second.setWidth 12) : packPair p = [x, y, z] := by
  rw [packPair_eq_triple_iff, pairWord, ← hfirst, ← hsecond, groupFirst_eq, groupSecond_eq,
    BitVec.extractLsb'_append_extractLsb'_eq_extractLsb' (by decide), BitVec.extractLsb'_eq_self]

/-! ### PACK12 (R141) -/

theorem pack12_cons (p : Pair) (xs : Chunk) : pack12 (p :: xs) = packPair p ++ pack12 xs := rfl

theorem pack12_append (xs ys : Chunk) : pack12 (xs ++ ys) = pack12 xs ++ pack12 ys := List.flatMap_append

theorem pack12_length (xs : Chunk) : (pack12 xs).length = 3 * xs.length := by
  induction xs with
  | nil => rfl
  | cons p xs ih => rw [pack12_cons, List.length_append, packPair_length, ih, List.length_cons]; omega

theorem slice_pack12 {xs : Chunk} {k : Nat} {p : Pair} (hp : xs[k]? = some p) :
    slice (pack12 xs) (3 * k) 3 = packPair p := by
  obtain ⟨hk, rfl⟩ := List.getElem?_eq_some_iff.mp hp
  have hsplit : pack12 xs = pack12 (xs.take k) ++ packPair xs[k] ++ pack12 (xs.drop (k + 1)) := by
    rw [List.append_assoc, ← pack12_cons, ← pack12_append, List.getElem_cons_drop, List.take_append_drop]
  refine slice_of_eq_append hsplit ?_ (packPair_length _)
  rw [pack12_length, List.length_take_of_le hk.le]

/-- Settles O21: the bytes at a pair's position are those of its word. -/
theorem pack12Triplets : Obligations.Pack12Triplets := by
  refine fun xs s => ⟨pack12 xs, rfl, pack12_length xs, fun k p hp => ?_⟩
  rw [slice_pack12 hp, packPair_eq_bytes]

/-! ### UNPACK12 (R142) -/

theorem unpack12_length (b : Bytes) :
    (unpack12 b).length = 2 * (b.length / 3) + if b.length % 3 = 0 then 0 else 1 := by
  induction b using unpack12.induct with
  | case1 => rfl
  | case2 | case3 => simp [unpack12]
  | case4 x y z rest ih =>
    have hmod : (rest.length + 1 + 1 + 1) % 3 = rest.length % 3 := Nat.add_mod_right _ 3
    simp only [unpack12, List.length_cons, ih, hmod]
    omega

/-- The `k`-th group of three bytes as a word, missing bytes counting as zero. -/
def groupWord (b : Bytes) (k : Nat) : BitVec 24 :=
  b.getD (3 * k) 0 ++ b.getD (3 * k + 1) 0 ++ b.getD (3 * k + 2) 0

theorem groupWord_succ (x y z : Byte) (rest : Bytes) (k : Nat) :
    groupWord (x :: y :: z :: rest) (k + 1) = groupWord rest k := rfl

/-- Each group gives the high half of its word, and a whole one the low half too. -/
theorem unpack12_getElem? {b : Bytes} {k : Nat} (hk : 3 * k < b.length) :
    (unpack12 b)[2 * k]? = some ((groupWord b k).extractLsb' 12 12) ∧
      (3 * k + 3 ≤ b.length → (unpack12 b)[2 * k + 1]? = some ((groupWord b k).extractLsb' 0 12)) := by
  induction b using unpack12.induct generalizing k with
  | case1 => exact absurd hk (Nat.not_lt_zero _)
  | case2 x =>
    obtain rfl : k = 0 := by rw [List.length_singleton] at hk; omega
    exact ⟨congrArg some (groupFirst_eq x 0 0), fun hwhole => absurd hwhole (by simp)⟩
  | case3 x y =>
    obtain rfl : k = 0 := by rw [List.length_cons, List.length_singleton] at hk; omega
    exact ⟨congrArg some (groupFirst_eq x y 0), fun hwhole => absurd hwhole (by simp)⟩
  | case4 x y z rest ih =>
    cases k with
    | zero => exact ⟨congrArg some (groupFirst_eq x y z), fun _ => congrArg some (groupSecond_eq x y z)⟩
    | succ k =>
      simp only [List.length_cons] at hk ⊢
      obtain ⟨hfirst, hsecond⟩ := ih (k := k) (by omega)
      rw [groupWord_succ]
      exact ⟨hfirst, fun hwhole => hsecond (by omega)⟩

/-- Settles O22: the values come two per group, read off the group's word. -/
theorem unpack12Values : Obligations.Unpack12Values :=
  fun b _ => ⟨unpack12 b, rfl, unpack12_length b, fun _ hk => unpack12_getElem? hk⟩

/-! ### The round trips (R143) -/

/-- Unpacking a pair's three bytes gives the low 12 bits of its components. -/
theorem unpack12_packPair_append (p : Pair) (b : Bytes) :
    unpack12 (packPair p ++ b) = p.first.setWidth 12 :: p.second.setWidth 12 :: unpack12 b := by
  obtain ⟨x, y, z, hxyz⟩ := List.length_eq_three.mp (packPair_length p)
  have hunpack : unpack12 (packPair p ++ b) = groupFirst x y z :: groupSecond x y z :: unpack12 b := by rw [hxyz]; rfl
  rw [hunpack, groupFirst_eq, groupSecond_eq, ← packPair_eq_triple_iff.mp hxyz, pairWord,
    BitVec.extractLsb'_append_eq_left, BitVec.extractLsb'_append_eq_right]

theorem unpack12_pack12 (xs : Chunk) :
    unpack12 (pack12 xs) = xs.flatMap fun p => [p.first.setWidth 12, p.second.setWidth 12] := by
  induction xs with
  | nil => rfl
  | cons p xs ih => rw [pack12_cons, unpack12_packPair_append, ih]; rfl

/-- Whole groups are packed again from any pairs with their values: the high bits of a component do not count. -/
theorem pack12_of_unpack12_eq {b : Bytes} {xs : Chunk} (hwhole : b.length % 3 = 0)
    (hvalues : unpack12 b = xs.flatMap fun p => [p.first.setWidth 12, p.second.setWidth 12]) : pack12 xs = b := by
  induction b using unpack12.induct generalizing xs with
  | case1 =>
    cases xs with
    | nil => rfl
    | cons p xs => exact absurd hvalues.symm (List.cons_ne_nil _ _)
  | case2 | case3 => exact absurd hwhole (by simp)
  | case4 x y z rest ih =>
    cases xs with
    | nil => exact absurd hvalues (List.cons_ne_nil _ _)
    | cons p xs =>
      obtain ⟨hfirst, htail⟩ := List.cons.inj hvalues
      obtain ⟨hsecond, hrest⟩ := List.cons.inj htail
      have hwhole' : rest.length % 3 = 0 := (Nat.add_mod_right _ 3).symm.trans hwhole
      rw [pack12_cons, packPair_eq_group hfirst hsecond, ih hwhole' hrest]
      rfl

/-- Settles O23: pair by pair, group by group. -/
theorem packerRoundTrips : Obligations.PackerRoundTrips :=
  ⟨fun xs => ⟨pack12_length xs, unpack12_pack12 xs⟩, fun _ _ hwhole hvalues => pack12_of_unpack12_eq hwhole hvalues⟩

end Sys2Proof.Machine
end

section
/-! PROOF. O25 and O24: the accumulator. A push appends and an emission splits off the oldest block, so the blocks
and what is pending stay the pushed pairs along every run. -/

namespace Sys2Proof.Machine

/-! ### One push, one emission (R151, R152) -/

/-- For a chunk within `MAX_CHUNK`, ACC.PUSH is decided by the room in `ACC`. -/
theorem exec_accPush_of_fits {s : State} {c : Chunk} (hfit : c.length ≤ s.params.maxChunk) :
    exec (.accPush c) s =
      if s.acc.length < s.cfg.sampleCount.toNat then finish (s.accAppend c) .done else hold s := by
  simp only [exec, execAccPush, State.chunkFits, State.accRoom, decide_eq_true_eq, if_pos hfit]
  rfl

theorem accTake_of_full {s : State} (h : s.cfg.sampleCount.toNat ≤ s.acc.length) : s.accTake =
    some ({ s with acc := s.acc.drop s.cfg.sampleCount.toNat }, s.acc.take s.cfg.sampleCount.toNat) :=
  if_pos h

theorem accTake_of_not_full {s : State} (h : s.acc.length < s.cfg.sampleCount.toNat) : s.accTake = none :=
  if_neg h.not_ge

theorem exec_accEmit_eq (s : State) :
    exec .accEmit s = finishOrHold s (s.accTake.map fun a => (a.1, .pairs a.2)) := rfl

/-- Settles O24: the push by the room it finds, the emission by the block it takes. -/
theorem accumulatorSteps : Obligations.AccumulatorSteps := by
  refine fun s => ⟨fun c hfit hroom => ⟨?_, ?_⟩, fun hfull => ?_⟩
  · rw [exec_accPush_of_fits hfit, if_pos hroom]
    rfl
  · rw [List.length_append]
    omega
  · rw [exec_accEmit_eq, accTake_of_full hfull]
    rfl

/-! ### Runs of the accumulator (R153) -/

theorem accPush_done {s t : State} {c : Chunk} (h : exec (.accPush c) s = .next t) (hout : t.out = .done) :
    t.acc = s.acc ++ c ∧ t.cfg = s.cfg := by
  obtain ⟨-, ⟨-, rfl, -⟩ | ⟨-, rfl⟩⟩ := execAccPush_cases h
  · exact ⟨rfl, rfl⟩
  · exact Result.noConfusion hout

theorem accEmit_pairs {s t : State} {b : Chunk} (h : exec .accEmit s = .next t) (hout : t.out = .pairs b) :
    b ++ t.acc = s.acc ∧ b.length = s.cfg.sampleCount.toNat ∧ t.cfg = s.cfg := by
  obtain ⟨-, rfl⟩ | ⟨u, r, hu, rfl⟩ := finishOrHold_cases h
  · exact Result.noConfusion hout
  · obtain ⟨⟨v, blk⟩, hv, he⟩ := Option.map_eq_some_iff.mp hu
    obtain ⟨rfl, rfl⟩ := Prod.mk.inj he
    obtain rfl := Result.pairs.inj hout
    obtain ⟨hfull, rfl, rfl⟩ := accTake_cases hv
    exact ⟨List.take_append_drop _ _, List.length_take_of_le hfull, rfl⟩

/-- Along a run from any state, the blocks and what is pending are what was pending and the pushed pairs. -/
theorem AccumulatorRun.flatten_append_acc {s t : State} {chunks blocks : List Chunk}
    (h : AccumulatorRun s chunks blocks t) : blocks.flatten ++ t.acc = s.acc ++ chunks.flatten := by
  induction h with
  | nil s => simp
  | push hpush hout _ ih => rw [ih, (accPush_done hpush hout).1, List.flatten_cons, List.append_assoc]
  | emit hemit hout _ ih =>
    rw [List.flatten_cons, List.append_assoc, ih, ← (accEmit_pairs hemit hout).1, List.append_assoc]

theorem AccumulatorRun.block_length {s t : State} {chunks blocks : List Chunk}
    (h : AccumulatorRun s chunks blocks t) : ∀ b ∈ blocks, b.length = s.cfg.sampleCount.toNat := by
  induction h with
  | nil s => exact nofun
  | push hpush hout _ ih =>
    rw [← (accPush_done hpush hout).2]
    exact ih
  | emit hemit hout _ ih =>
    obtain ⟨-, hlen, hcfg⟩ := accEmit_pairs hemit hout
    rw [hcfg] at ih
    exact List.forall_mem_cons.mpr ⟨hlen, ih⟩

/-- Settles O25: with `ACC` empty at first, the lengths on the two sides are a division of the total by `B`. -/
theorem accumulatorLaw : Obligations.AccumulatorLaw := by
  intro s t chunks blocks h hempty
  have hcover : blocks.flatten ++ t.acc = chunks.flatten := by simpa [hempty] using h.flatten_append_acc
  have hlen := h.block_length
  refine ⟨hcover, hlen, fun hrest => ?_⟩
  have hpairs : blocks.flatten.length = s.cfg.sampleCount.toNat * blocks.length := by
    rw [List.length_flatten, List.map_congr_left hlen, List.map_const', List.sum_replicate, smul_eq_mul, mul_comm]
  have hdiv := (Nat.div_mod_unique (Nat.zero_lt_of_lt hrest)).mpr
    ⟨show t.acc.length + s.cfg.sampleCount.toNat * blocks.length = chunks.flatten.length by
      rw [← hcover, List.length_append, hpairs, Nat.add_comm], hrest⟩
  exact ⟨hdiv.1.symm, hdiv.2.symm⟩

end Sys2Proof.Machine
end

section
/-! PROOF. O49: a step whose guard is false waits. Each meaning is a guard around a body that may itself have no
step, so it waits exactly when the guard is false or the body has none. -/

namespace Sys2Proof.Machine

section Waiting

variable {s : State}

/-! ### The shared operations without a step -/

theorem finishOrHold_of_none {o : Option (State × Result)} (h : o = none) : finishOrHold s o = hold s := h ▸ rfl

/-- A guarded meaning waits if the guard is false or its body waits. -/
theorem guarded_eq_hold {g : Bool} {body : Answer} (h : g = false ∨ body = hold s) :
    (if g then body else hold s) = hold s := by
  obtain rfl | rfl := h
  · rfl
  · exact ite_self _

theorem pop_dq_of_empty (h : s.dq = []) : s.pop .dq = none := by simp [State.pop, h]

theorem pop_oq_of_empty (h : s.oq = []) : s.pop .oq = none := by simp [State.pop, h]

theorem pop_iq_of_empty (h : s.iq = []) : s.pop .iq = none := by simp [State.pop, h]

theorem sourcePush_of_blocked (hfull : s.params.iqCap ≤ s.iq.length) (hpolicy : s.params.inPushPolicy = .block)
    (c : Chunk) : s.sourcePush c = none := by
  simp only [State.sourcePush, if_neg hfull.not_gt, hpolicy]

theorem runWrapped_pushHold_of_empty (h : s.oHold = none) : s.runWrapped .pushHold = none := by
  simp [State.runWrapped, h]

theorem limiterCall_eq_none_iff {l : Limiter} {op : WrappedOp l} :
    s.limiterCall l op = none ↔ s.due l = false ∨ s.runWrapped op = none := by
  cases hd : s.due l <;> simp [State.limiterCall, hd]

/-! ### The guards of the stages (R199 to R208) -/

theorem canLoad_eq_false_iff : s.canLoad = false ↔
    s.pState ≠ .run ∨ s.stopReq = true ∨ s.cfg.blockSize ≤ s.acc.length := by
  simp [State.canLoad, State.accRoom, -Bool.and_eq_false_imp, Bool.and_eq_false_iff, or_assoc]

theorem canEmit_eq_false_iff : s.canEmit = false ↔ s.pState ≠ .run ∨ s.stopReq = true := by
  simp [State.canEmit, -Bool.and_eq_false_imp, Bool.and_eq_false_iff]

theorem canFetch_eq_false_iff : s.canFetch = false ↔ s.oState ≠ .wait ∨ s.stopReq = true := by
  simp [State.canFetch, -Bool.and_eq_false_imp, Bool.and_eq_false_iff]

theorem canSend_eq_false_iff : s.canSend = false ↔ s.oState ≠ .holding ∨ s.stopReq = true := by
  simp [State.canSend, -Bool.and_eq_false_imp, Bool.and_eq_false_iff]

theorem canEmitContext_eq_false_iff : s.canEmitContext = false ↔
    s.cState ≠ .run ∨ s.stopReq = true ∨ s.cfg.ctxFreqInt ≤ 0 := by
  simp [State.canEmitContext, -Bool.and_eq_false_imp, Bool.and_eq_false_iff, or_assoc]

theorem canExit_eq_false_iff : s.canExit = false ↔
    s.cState ≠ .run ∨ s.stopReq = true ∨ 0 < s.cfg.ctxFreqInt := by
  simp [State.canExit, -Bool.and_eq_false_imp, Bool.and_eq_false_iff, or_assoc]

theorem stageRunning_p_eq_false_iff : s.stageRunning .p = false ↔ s.pState ≠ .run := by
  simp [State.stageRunning]

theorem stageRunning_o_eq_false_iff : s.stageRunning .o = false ↔ s.oState ≠ .wait ∧ s.oState ≠ .holding := by
  simp [State.stageRunning]

theorem stageRunning_c_eq_false_iff : s.stageRunning .c = false ↔ s.cState ≠ .run := by
  simp [State.stageRunning]

/-! ### The meanings that wait -/

theorem accPush_waits {c : Chunk} (hfit : c.length ≤ s.params.maxChunk)
    (hfull : s.cfg.sampleCount.toNat ≤ s.acc.length) : exec (.accPush c) s = hold s := by
  rw [exec_accPush_of_fits hfit, if_neg hfull.not_gt]

theorem accEmit_waits (h : s.acc.length < s.cfg.sampleCount.toNat) : exec .accEmit s = hold s := by
  rw [exec_accEmit_eq, accTake_of_not_full h]
  rfl

theorem qPop_waits {q : QueueId} (h : s.pop q = none) : exec (.qPop q) s = hold s := finishOrHold_of_none h

theorem snkPop_waits (h : s.pop .oq = none) : exec .snkPop s = hold s := finishOrHold_of_none h

theorem rlCall_waits {l : Limiter} {op : WrappedOp l} (h : s.due l = false ∨ s.runWrapped op = none) :
    exec (.rlCall l op) s = hold s :=
  finishOrHold_of_none (limiterCall_eq_none_iff.mpr h)

theorem pLoad_waits (h : s.canLoad = false ∨ s.iq = []) : exec .pLoad s = hold s :=
  guarded_eq_hold (h.imp_right fun hq => by rw [hq])

theorem pEmit_waits (h : s.canEmit = false ∨ s.acc.length < s.cfg.sampleCount.toNat) : exec .pEmit s = hold s :=
  guarded_eq_hold (h.imp_right fun hl => by rw [accTake_of_not_full hl]; rfl)

theorem oFetch_waits (h : s.canFetch = false ∨ s.dq = []) : exec .oFetch s = hold s :=
  guarded_eq_hold (h.imp_right fun hq => by rw [hq])

theorem oSend_waits (h : s.canSend = false ∨ s.due .out = false) : exec .oSend s = hold s := by
  refine guarded_eq_hold (h.imp_right fun hd => ?_)
  have hcall : s.limiterCall .out .pushHold = none := limiterCall_eq_none_iff.mpr (.inl hd)
  cases s.oHold with
  | none => rfl
  | some pkt => exact finishOrHold_of_none (by rw [hcall]; rfl)

theorem cEmit_waits {tod : BitVec 96} (h : s.canEmitContext = false ∨ s.due .ctx = false) :
    exec (.cEmit tod) s = hold s :=
  guarded_eq_hold (h.imp_right fun hd => finishOrHold_of_none (limiterCall_eq_none_iff.mpr (.inl hd)))

theorem cExit_waits (h : s.canExit = false) : exec .cExit s = hold s := guarded_eq_hold (.inl h)

theorem pStop_waits (h : s.stopReq = false ∨ s.stageRunning .p = false) : exec .pStop s = hold s :=
  guarded_eq_hold (.inl (Bool.and_eq_false_iff.mpr h))

theorem oStop_waits (h : s.stopReq = false ∨ s.stageRunning .o = false) : exec .oStop s = hold s :=
  guarded_eq_hold (.inl (Bool.and_eq_false_iff.mpr h))

theorem cStop_waits (h : s.stopReq = false ∨ s.stageRunning .c = false) : exec .cStop s = hold s :=
  guarded_eq_hold (.inl (Bool.and_eq_false_iff.mpr h))

theorem srcPush_waits {c : Chunk} (hfit : c.length ≤ s.params.maxChunk)
    (h : s.running = false ∨ s.sourcePush c = none) : exec (.srcPush c) s = hold s :=
  (if_pos (decide_eq_true hfit)).trans (guarded_eq_hold (h.imp_right finishOrHold_of_none))

theorem stageFault_waits {g : Stage} (h : s.stageRunning g = false) : exec (.stageFault g) s = hold s :=
  guarded_eq_hold (.inl h)

end Waiting

/-- Settles O49: each step by the way it waits, its guard read as the rules write it. -/
theorem disabledStepsChangeNothing : Obligations.DisabledStepsChangeNothing := by
  intro s waits
  refine ⟨fun c => accPush_waits, accEmit_waits, fun hq => qPop_waits (pop_dq_of_empty hq),
    fun hq => ⟨qPop_waits (pop_oq_of_empty hq), snkPop_waits (pop_oq_of_empty hq)⟩,
    fun hq => qPop_waits (pop_iq_of_empty hq), fun l op hd => rlCall_waits (.inl hd),
    fun hq => rlCall_waits (.inr (pop_dq_of_empty hq)),
    fun hh => rlCall_waits (.inr (runWrapped_pushHold_of_empty hh)),
    fun h => pLoad_waits ?_, fun h => pEmit_waits ?_, fun h => oFetch_waits ?_, fun h => oSend_waits ?_,
    fun tod h => cEmit_waits ?_, fun h => cExit_waits (canExit_eq_false_iff.mpr h),
    fun h => pStop_waits (h.imp_right stageRunning_p_eq_false_iff.mpr),
    fun h => oStop_waits (h.imp_right stageRunning_o_eq_false_iff.mpr),
    fun h => cStop_waits (h.imp_right stageRunning_c_eq_false_iff.mpr),
    fun c hfit h => srcPush_waits hfit (h.imp_right fun hb => sourcePush_of_blocked hb.1 hb.2 c),
    fun h => stageFault_waits (stageRunning_p_eq_false_iff.mpr h),
    fun hw hh => stageFault_waits (stageRunning_o_eq_false_iff.mpr ⟨hw, hh⟩),
    fun h => stageFault_waits (stageRunning_c_eq_false_iff.mpr h)⟩
  · rwa [canLoad_eq_false_iff, or_assoc, or_assoc]
  · rwa [canEmit_eq_false_iff, or_assoc]
  · rwa [canFetch_eq_false_iff, or_assoc]
  · rwa [canSend_eq_false_iff, or_assoc]
  · rwa [canEmitContext_eq_false_iff, or_assoc, or_assoc]

end Sys2Proof.Machine
end

section
/-! PROOF. O28 and O26: the limiters. Each way of calling one is a call when due, and leaves the mark at `NOW`; so
along a run the mark and the times of the calls are a chain of ticks that are each at least the interval after the
one before. -/

namespace Sys2Proof.Machine

/-! ### RL.DUE and RL.MARK (R159 to R161) -/

/-- Settles O26: each limiter by its own interval; the context limiter's numerator is 1. -/
theorem limiterDueAndMark : Obligations.LimiterDueAndMark := by
  intro s outDue ctxDue
  have hctx : s.due .ctx = ctxDue := by
    cases h : s.rlCtxLast <;>
      simp [ctxDue, h, State.due, State.limiterLast, State.limiterNum, State.limiterDen, Cfg.ctxFreqInt]
  exact ⟨rfl, hctx ▸ rfl, rfl, rfl⟩

/-! ### One call (R162, R205, R207) -/

/-- From `s` to `t` limiter `l` was called: it was due, and its mark is now the tick of the call. -/
structure Calls (l : Limiter) (s t : State) : Prop where
  due : s.due l = true
  marked : t.limiterLast l = some s.now
  params : t.params = s.params

section Calls

variable {s t : State}

theorem exec_params {i : Instr} (h : exec i s = .next t) : t.params = s.params :=
  (onlyTickMovesTime.2 i s t h).1

theorem limiterLast_with_out (s : State) (l : Limiter) (r : Result) :
    State.limiterLast { s with out := r } l = s.limiterLast l := by
  cases l <;> rfl

theorem observeIfOk_rlOutLast (s : State) (r : Result) (n : Nat) : (s.observeIfOk r n).rlOutLast = s.rlOutLast := by
  unfold State.observeIfOk
  split <;> rfl

theorem rlCall_calls {l : Limiter} {op : WrappedOp l} (h : exec (.rlCall l op) s = .next t) (ho : t.out ≠ .held) :
    Calls l s t := by
  obtain ⟨-, rfl⟩ | ⟨v, r, hv, rfl⟩ := finishOrHold_cases h
  · exact absurd rfl ho
  · obtain ⟨hdue, u, hu, rfl⟩ := limiterCall_cases hv
    exact ⟨hdue, by rw [limiterLast_with_out, mark_limiterLast, (runWrapped_keepsClock hu).now], exec_params h⟩

theorem oSend_calls (h : exec .oSend s = .next t) (ho : t.out ≠ .held) : Calls .out s t := by
  obtain rfl | ⟨pkt, u, r, -, -, -, hdue, hu, rfl⟩ := execOSend_cases h
  · exact absurd rfl ho
  · have hu : KeepsClock s u := .of_pair_eq hu (tryPush_keepsClock s (.oq pkt))
    exact ⟨hdue, (observeIfOk_rlOutLast _ r pkt.length).trans (congrArg some hu.now), exec_params h⟩

theorem cEmit_calls {tod : BitVec 96} (h : exec (.cEmit tod) s = .next t) (ho : t.out ≠ .held) : Calls .ctx s t := by
  obtain rfl | ⟨u, r, -, -, -, hdue, hu, rfl⟩ := execCEmit_cases h
  · exact absurd rfl ho
  · have hu : KeepsClock s u := .of_pair_eq hu (buildAndPush_keepsClock s tod)
    exact ⟨hdue, congrArg some hu.now, exec_params h⟩

end Calls

/-! ### A run of calls (R163) -/

/-- Tick `u` is at least an interval of `gap / den` after tick `t`. -/
def Apart (gap den : Int) (t u : Nat) : Prop := gap ≤ ((u : Int) - t) * den

/-- The interval of a limiter, in the units in which R160 compares. -/
abbrev State.callsApart (s : State) (l : Limiter) : Nat → Nat → Prop :=
  Apart (s.limiterNum l * s.params.tickHz) (s.limiterDen l)

/-- A call puts its tick before those of the calls that follow it, and after the mark it found. -/
theorem Calls.chain {l : Limiter} {s t : State} {times : List Nat} (h : Calls l s t)
    (hnum : t.limiterNum l = s.limiterNum l) (hden : t.limiterDen l = s.limiterDen l)
    (ht : ((t.limiterLast l).toList ++ times).IsChain (t.callsApart l)) :
    ((s.limiterLast l).toList ++ s.now :: times).IsChain (s.callsApart l) := by
  rw [State.callsApart, h.marked, h.params, hnum, hden] at ht
  cases hlast : s.limiterLast l with
  | none => exact ht
  | some u => exact .cons_cons ((due_iff s l).mp h.due u hlast) ht

/-- The mark, if there is one, and the calls of a run follow one another at least the interval apart. -/
theorem LimiterRun.chain {l : Limiter} {s : State} {times : List Nat} (h : LimiterRun l s times) :
    ((s.limiterLast l).toList ++ times).IsChain (s.callsApart l) := by
  induction h with
  | nil s => cases s.limiterLast l <;> simp
  | call he ho hnum hden _ ih => exact (rlCall_calls he ho).chain hnum hden ih
  | send hl he ho hnum hden _ ih =>
    subst hl
    exact (oSend_calls he ho).chain hnum hden ih
  | emit hl he ho hnum hden _ ih =>
    subst hl
    exact (cEmit_calls he ho).chain hnum hden ih
  | other _ hlast hnum hden hparams _ ih => rwa [State.callsApart, hlast, hnum, hden, hparams] at ih

/-- `n` gaps, one after the other, span at least `n` intervals. -/
theorem span_of_isChain_apart {gap den : Int} {t u : Nat} {times : List Nat}
    (h : (t :: times).IsChain (Apart gap den)) (hu : (t :: times).getLast? = some u) :
    times.length * gap ≤ ((u : Int) - t) * den := by
  induction times generalizing t with
  | nil =>
    obtain rfl : t = u := by simpa using hu
    simp
  | cons v times ih =>
    obtain ⟨hfirst, hrest⟩ := List.isChain_cons_cons.mp h
    have hspan := ih hrest (by simpa using hu)
    calc ((v :: times).length : Int) * gap = gap + times.length * gap := by push_cast [List.length_cons]; ring
      _ ≤ ((v : Int) - t) * den + ((u : Int) - v) * den := add_le_add hfirst hspan
      _ = ((u : Int) - t) * den := by ring

/-- Settles O28: the calls are a chain of gaps, and a limiter is due by its own register alone. -/
theorem limiterSpacing : Obligations.LimiterSpacing := by
  intro l s times hrun
  have hchain : times.IsChain (s.callsApart l) := hrun.chain.right_of_append
  refine ⟨fun k t u ht hu => ?_, fun t u ht hu => ?_, fun v => ⟨rfl, rfl⟩⟩
  · obtain ⟨hk, rfl⟩ := List.getElem?_eq_some_iff.mp hu
    obtain ⟨-, rfl⟩ := List.getElem?_eq_some_iff.mp ht
    exact List.isChain_iff_getElem.mp hchain k hk
  · obtain ⟨rest, rfl⟩ := List.head?_eq_some_iff.mp ht
    have hspan := span_of_isChain_apart hchain hu
    rwa [List.length_cons, Nat.cast_add_one, add_sub_cancel_right, mul_assoc]

end Sys2Proof.Machine
end

section
/-! PROOF. O29: the meter. When every exact value fits its register, the observation and the report write it exactly. -/

namespace Sys2Proof.Machine

/-! ### The observation and the report (R166) -/

theorem fitRegister_toNat {w v : Nat} (h : v < 2 ^ w) (free : BitVec 64) : (fitRegister w v free).toNat = v := by
  rw [fitRegister, if_pos h, BitVec.toNat_ofNat, Nat.mod_eq_of_lt h]

section Observation

variable {m : Meter} {hz mtrN now n drawn : Nat}

theorem Meter.observe_last : (m.observe hz now n drawn).last = some now := rfl

theorem Meter.observe_cnt (h : m.cnt.toNat + 1 < 2 ^ 32) :
    (m.observe hz now n drawn).cnt.toNat = m.cnt.toNat + 1 := by
  cases hl : m.last <;> simpa [Meter.observe, hl] using fitRegister_toNat h _

/-- The first observation opens the window and counts none of its bytes. -/
theorem Meter.observe_bytes (h : m.bytes.toNat + (if m.last = none then 0 else n) < 2 ^ 64) :
    (m.observe hz now n drawn).bytes.toNat = m.bytes.toNat + (if m.last = none then 0 else n) := by
  cases hl : m.last with
  | none => simp [Meter.observe, hl]
  | some t => simpa [Meter.observe, hl] using fitRegister_toNat (by simpa [hl] using h) _

theorem Meter.observe_winStart :
    (m.observe hz now n drawn).winStart = if m.last = none then now else m.winStart := by
  cases hl : m.last <;> simp [Meter.observe, hl]

theorem Meter.observe_rate : (m.observe hz now n drawn).rate = m.rate := by
  cases hl : m.last <;> simp [Meter.observe, hl]

theorem Meter.observe_reports : (m.observe hz now n drawn).reports = m.reports := by
  cases hl : m.last <;> simp [Meter.observe, hl]

theorem Meter.observe_inst_of_first (hl : m.last = none) : (m.observe hz now n drawn).inst = m.inst := by
  simp [Meter.observe, hl]

theorem Meter.observe_inst_of_later {t : Nat} (hl : m.last = some t)
    (h : t < now → n * hz / (now - t) < 2 ^ 64) : (m.observe hz now n drawn).inst.toNat =
      if t < now then n * hz / (now - t) else m.inst.toNat := by
  by_cases ht : t < now
  · simpa [Meter.observe, hl, ht] using fitRegister_toNat (h ht) _
  · simp [Meter.observe, hl, ht]

theorem Meter.report_last : (m.report hz mtrN now drawn).last = m.last := by
  unfold Meter.report
  split <;> rfl

theorem Meter.report_inst : (m.report hz mtrN now drawn).inst = m.inst := by
  unfold Meter.report
  split <;> rfl

theorem Meter.report_of_open (h : m.cnt.toNat < mtrN) : m.report hz mtrN now drawn = m := if_neg (not_le.mpr h)

/-- The report closes the window and opens the next one at `now`. -/
theorem Meter.report_of_full (h : mtrN ≤ m.cnt.toNat) :
    (m.report hz mtrN now drawn).cnt = 0 ∧ (m.report hz mtrN now drawn).bytes = 0 ∧
      (m.report hz mtrN now drawn).winStart = now ∧
      (m.report hz mtrN now drawn).reports = satInc m.reports := by
  rw [Meter.report, if_pos h]
  exact ⟨rfl, rfl, rfl, rfl⟩

theorem Meter.report_rate (h : mtrN ≤ m.cnt.toNat)
    (hfit : m.winStart < now → m.bytes.toNat * hz / (now - m.winStart) < 2 ^ 64) :
    (m.report hz mtrN now drawn).rate.toNat =
      if m.winStart < now then m.bytes.toNat * hz / (now - m.winStart) else m.rate.toNat := by
  rw [Meter.report, if_pos h]
  by_cases hw : m.winStart < now
  · simpa [hw] using fitRegister_toNat (hfit hw) _
  · simp [hw]

end Observation

/-- Settles O29: the observation writes the exact values, and the report reads them. -/
theorem meterObserves : Obligations.MeterObserves := by
  intro n s seen start hcnt hseen hinst hrate
  let o := s.mtr.observe s.params.tickHz s.now n s.drawn
  have ocnt : o.cnt.toNat = s.mtr.cnt.toNat + 1 := Meter.observe_cnt hcnt
  have obytes : o.bytes.toNat = seen := Meter.observe_bytes hseen
  have owin : o.winStart = start := Meter.observe_winStart
  refine ⟨o.report s.params.tickHz s.params.mtrN s.now s.drawn, rfl, Meter.report_last, ?_,
    fun hopen => ?_, fun hfull => ?_⟩
  · rw [Meter.report_inst]
    cases hl : s.mtr.last with
    | none => exact congrArg BitVec.toNat (Meter.observe_inst_of_first hl)
    | some t => exact Meter.observe_inst_of_later hl (hinst t hl)
  · rw [Meter.report_of_open (ocnt ▸ hopen)]
    exact ⟨ocnt, obytes, owin, Meter.observe_rate, Meter.observe_reports⟩
  · have hfull : s.params.mtrN ≤ o.cnt.toNat := ocnt ▸ hfull
    obtain ⟨hc, hb, hw, hr⟩ := Meter.report_of_full (hz := s.params.tickHz) (now := s.now) (drawn := s.drawn) hfull
    refine ⟨hc, hb, hw, ?_, ?_⟩
    · rw [hr, satInc_toNat, Meter.observe_reports]
    · rw [Meter.report_rate hfull (by rwa [obytes, owin]), obytes, owin, Meter.observe_rate]

end Sys2Proof.Machine
end

section
/-! PROOF. O30: nothing reads the meter but MTR.OBS and the register reads. On states that differ in the meter alone,
each shared operation returns the same and leaves states that differ in the meter alone, and so does each meaning put
together out of them. -/

namespace Sys2Proof.Machine

/-! ### Agreeing but for the meter -/

/-- `t` is `s` with another meter. -/
def StatesAgree (s t : State) : Prop := ∃ m, t = { s with mtr := m }

/-- The same result, and states that agree but for the meter. -/
def PairsAgree (p q : State × Result) : Prop := StatesAgree p.1 q.1 ∧ q.2 = p.2

/-- Neither has a step, or both have steps that agree. -/
def StepsAgree : Option (State × Result) → Option (State × Result) → Prop
  | none, o => o = none
  | some p, o => ∃ q, o = some q ∧ PairsAgree p q

/-- The same stop, or next states that agree but for the meter. -/
def AnswersAgree (a b : Answer) : Prop :=
  match a with
  | .next t => ∃ m, b = .next { t with mtr := m }
  | .fault r => b = .fault r
  | .refused r => b = .refused r

theorem StatesAgree.refl (s : State) : StatesAgree s s := ⟨s.mtr, rfl⟩

theorem PairsAgree.step {p q : State × Result} (h : PairsAgree p q) : StepsAgree (some p) (some q) := ⟨q, rfl, h⟩

theorem StepsAgree.map {o o' : Option (State × Result)} {f : State × Result → State × Result}
    (h : StepsAgree o o') (hf : ∀ p q, PairsAgree p q → PairsAgree (f p) (f q)) :
    StepsAgree (o.map f) (o'.map f) := by
  cases o with
  | none => exact congrArg (Option.map f) h
  | some p =>
    obtain ⟨q, rfl, hpq⟩ := h
    exact (hf p q hpq).step

section Meanings

variable {s t : State}

/-! ### How a meaning ends -/

theorem AnswersAgree.finish {r : Result} (h : StatesAgree s t) : AnswersAgree (finish s r) (finish t r) := by
  obtain ⟨m, rfl⟩ := h
  exact ⟨m, rfl⟩

theorem AnswersAgree.hold (h : StatesAgree s t) : AnswersAgree (hold s) (hold t) := .finish h

theorem AnswersAgree.refused (why : Refusal) : AnswersAgree (.refused why) (.refused why) := rfl

theorem AnswersAgree.ite {c : Prop} [Decidable c] {a a' b b' : Answer} (ha : AnswersAgree a a')
    (hb : AnswersAgree b b') : AnswersAgree (if c then a else b) (if c then a' else b') := by
  split
  · exact ha
  · exact hb

theorem PairsAgree.finish {p q : State × Result} (h : PairsAgree p q) :
    AnswersAgree (finish p.1 p.2) (finish q.1 q.2) := by
  obtain ⟨hs, hr⟩ := h
  rw [hr]
  exact .finish hs

theorem AnswersAgree.finishOrHold {o o' : Option (State × Result)} (h : StatesAgree s t) (ho : StepsAgree o o') :
    AnswersAgree (finishOrHold s o) (finishOrHold t o') := by
  cases o with
  | none =>
    obtain rfl : o' = none := ho
    exact .hold h
  | some p =>
    obtain ⟨q, rfl, hpq⟩ := ho
    exact hpq.finish

/-! ### The shared operations -/

theorem recordError_agree (h : StatesAgree s t) (e : ErrCode) (op : BitVec 8) :
    StatesAgree (s.recordError e op) (t.recordError e op) := by
  obtain ⟨m, rfl⟩ := h
  exact ⟨m, by rw [recordError_eq, recordError_eq]⟩

theorem encodeFailed_agree (h : StatesAgree s t) (e : ErrCode) (op : BitVec 8) :
    StatesAgree (s.encodeFailed e op) (t.encodeFailed e op) := by
  obtain ⟨m, rfl⟩ := h
  exact recordError_agree ⟨m, rfl⟩ e op

theorem decodeFailed_agree (h : StatesAgree s t) (e : ErrCode) : StatesAgree (s.decodeFailed e) (t.decodeFailed e) := by
  obtain ⟨m, rfl⟩ := h
  exact recordError_agree ⟨m, rfl⟩ e opPktDec

theorem killStage_agree (h : StatesAgree s t) (g : Stage) : StatesAgree (s.killStage g) (t.killStage g) := by
  obtain ⟨m, rfl⟩ := h
  cases g <;> exact recordError_agree ⟨m, rfl⟩ .stageFault opStageFault

theorem mark_agree (h : StatesAgree s t) (l : Limiter) : StatesAgree (s.mark l) (t.mark l) := by
  obtain ⟨m, rfl⟩ := h
  cases l <;> exact ⟨m, rfl⟩

/-- MTR.OBS reads the meter for the meter alone: the counter of draws moves on by one in any case. -/
theorem observe_agree (h : StatesAgree s t) (n : Nat) : StatesAgree (s.observe n) (t.observe n) := by
  obtain ⟨m, rfl⟩ := h
  exact ⟨_, rfl⟩

theorem observeIfOk_agree (h : StatesAgree s t) (r : Result) (n : Nat) :
    StatesAgree (s.observeIfOk r n) (t.observeIfOk r n) := by
  unfold State.observeIfOk
  split
  · exact observe_agree h n
  · exact h

theorem tryPush_agree (h : StatesAgree s t) (item : QueueItem) : PairsAgree (s.tryPush item) (t.tryPush item) := by
  obtain ⟨m, rfl⟩ := h
  cases item <;> unfold State.tryPush <;> dsimp only <;> split <;> exact ⟨⟨m, rfl⟩, rfl⟩

theorem pop_agree (h : StatesAgree s t) (q : QueueId) : StepsAgree (s.pop q) (t.pop q) := by
  obtain ⟨m, rfl⟩ := h
  cases q
  all_goals
    unfold State.pop
    dsimp only
    split
    · rfl
    · exact PairsAgree.step ⟨⟨m, rfl⟩, rfl⟩

theorem sourcePush_agree (h : StatesAgree s t) (c : Chunk) : StepsAgree (s.sourcePush c) (t.sourcePush c) := by
  obtain ⟨m, rfl⟩ := h
  unfold State.sourcePush
  dsimp only
  split
  · exact PairsAgree.step ⟨⟨m, rfl⟩, rfl⟩
  · split
    · exact PairsAgree.step ⟨⟨m, rfl⟩, rfl⟩
    · rfl

theorem accTake_map_agree (h : StatesAgree s t) {f : State × Chunk → State × Result}
    (hf : ∀ u v blk, StatesAgree u v → PairsAgree (f (u, blk)) (f (v, blk))) :
    StepsAgree (s.accTake.map f) (t.accTake.map f) := by
  obtain ⟨m, rfl⟩ := h
  unfold State.accTake
  dsimp only
  split
  · exact (hf _ _ _ ⟨m, rfl⟩).step
  · rfl

theorem frameAndPush_agree (h : StatesAgree s t) (blk : Chunk) :
    PairsAgree (s.frameAndPush blk) (t.frameAndPush blk) := by
  obtain ⟨m, rfl⟩ := h
  have hframed : (State.frameData { s with mtr := m } blk).2 = (s.frameData blk).2 := rfl
  unfold State.frameAndPush
  rw [hframed]
  split
  · exact ⟨encodeFailed_agree ⟨m, rfl⟩ _ _, rfl⟩
  · exact tryPush_agree ⟨m, rfl⟩ _

theorem buildAndPush_agree (h : StatesAgree s t) (tod : BitVec 96) :
    PairsAgree (s.buildAndPush tod) (t.buildAndPush tod) := by
  obtain ⟨m, rfl⟩ := h
  have hframed : (State.frameCtx { s with mtr := m } tod).2 = (s.frameCtx tod).2 := rfl
  unfold State.buildAndPush
  rw [hframed]
  split
  · exact ⟨encodeFailed_agree ⟨m, rfl⟩ _ _, rfl⟩
  · exact tryPush_agree ⟨m, rfl⟩ _

theorem runWrapped_agree (h : StatesAgree s t) {l : Limiter} (op : WrappedOp l) :
    StepsAgree (s.runWrapped op) (t.runWrapped op) := by
  have ⟨m, hm⟩ := h
  subst hm
  cases op with
  | tryPush pkt => exact (tryPush_agree h (.oq pkt)).step
  | pop => exact pop_agree h .dq
  | mtrObs n => exact PairsAgree.step ⟨observe_agree h n, rfl⟩
  | pushHold =>
    unfold State.runWrapped
    dsimp only
    split
    · rfl
    · exact (tryPush_agree h _).step
  | buildAndPush tod => exact (buildAndPush_agree h tod).step
  | ctxPayload | frameCtx | pktEnc => exact PairsAgree.step ⟨⟨m, rfl⟩, rfl⟩

theorem limiterCall_agree (h : StatesAgree s t) {l : Limiter} (op : WrappedOp l) :
    StepsAgree (s.limiterCall l op) (t.limiterCall l op) := by
  have hdue : t.due l = s.due l := by
    obtain ⟨m, rfl⟩ := h
    cases l <;> rfl
  unfold State.limiterCall
  rw [hdue]
  split
  · exact (runWrapped_agree h op).map fun _ _ hpq => ⟨mark_agree hpq.1 l, hpq.2⟩
  · rfl

/-! ### The meanings that branch -/

theorem execAccEmit_agree (h : StatesAgree s t) : AnswersAgree (execAccEmit s) (execAccEmit t) :=
  .finishOrHold h (accTake_map_agree h fun _ _ _ huv => ⟨huv, rfl⟩)

/-- A START that succeeds leaves the same meter, the fresh one (R198). -/
theorem execStart_agree (h : StatesAgree s t) (tod : BitVec 96) : AnswersAgree (execStart tod s) (execStart tod t) := by
  obtain ⟨m, rfl⟩ := h
  refine .ite (.finish ⟨m, rfl⟩) ?_
  dsimp only
  split
  · exact .finish ⟨m, rfl⟩
  · exact .finish (.refl (s.startRun tod))

theorem execHostDec_agree (h : StatesAgree s t) (b : Bytes) : AnswersAgree (execHostDec b s) (execHostDec b t) := by
  obtain ⟨m, rfl⟩ := h
  unfold execHostDec
  dsimp only
  split
  · exact .finish (decodeFailed_agree ⟨m, rfl⟩ _)
  · exact .finish ⟨m, rfl⟩

theorem execPLoad_agree (h : StatesAgree s t) : AnswersAgree (execPLoad s) (execPLoad t) := by
  have ⟨m, hm⟩ := h
  subst hm
  refine .ite ?_ (.hold h)
  dsimp only
  split
  · exact .hold h
  · exact .finish ⟨m, rfl⟩

theorem execPEmit_agree (h : StatesAgree s t) : AnswersAgree (execPEmit s) (execPEmit t) := by
  have ⟨m, hm⟩ := h
  subst hm
  exact .ite (.finishOrHold h (accTake_map_agree h fun _ _ blk huv => frameAndPush_agree huv blk)) (.hold h)

theorem execOFetch_agree (h : StatesAgree s t) : AnswersAgree (execOFetch s) (execOFetch t) := by
  have ⟨m, hm⟩ := h
  subst hm
  refine .ite ?_ (.hold h)
  dsimp only
  split
  · exact .hold h
  · exact .finish ⟨m, rfl⟩

theorem release_agree (h : StatesAgree s t) :
    StatesAgree { s with oHold := none, oState := .wait } { t with oHold := none, oState := .wait } := by
  obtain ⟨m, rfl⟩ := h
  exact ⟨m, rfl⟩

theorem execOSend_agree (h : StatesAgree s t) : AnswersAgree (execOSend s) (execOSend t) := by
  have ⟨m, hm⟩ := h
  subst hm
  refine .ite ?_ (.hold h)
  dsimp only
  split
  · exact .hold h
  · next pkt _ =>
    refine .finishOrHold h ((limiterCall_agree h .pushHold).map fun p q hpq => ?_)
    obtain ⟨hs, hr⟩ := hpq
    rw [hr]
    exact ⟨release_agree (observeIfOk_agree hs p.2 pkt.length), rfl⟩

/-! ### Every operation -/

/-- The last group is that of the operations that end in one `finish`, of a state in which the meter stands as it
was. -/
theorem exec_agree {i : Instr} (hi : ∀ r, i ≠ .regRead r) (h : StatesAgree s t) :
    AnswersAgree (exec i s) (exec i t) := by
  have ⟨m, hm⟩ := h
  subst hm
  cases i
  case regRead r => exact absurd rfl (hi r)
  case bfEnc | pktSize | stop | cfgWrite => exact .ite (.finish ⟨m, rfl⟩) (.finish ⟨m, rfl⟩)
  case accPush => exact .ite (.ite (.finish ⟨m, rfl⟩) (.hold h)) (.refused _)
  case accEmit => exact execAccEmit_agree h
  case rlMark l => exact .finish (mark_agree h l)
  case rlDue l => cases l <;> exact .finish ⟨m, rfl⟩
  case rlCall l op => exact .finishOrHold h (limiterCall_agree h op)
  case mtrObs n => exact .finish (observe_agree h n)
  case qTryPush item => exact .ite (tryPush_agree h item).finish (.refused _)
  case qPop q => exact .finishOrHold h (pop_agree h q)
  case snkPop => exact .finishOrHold h (pop_agree h .oq)
  case start tod => exact execStart_agree h tod
  case pLoad => exact execPLoad_agree h
  case pEmit => exact execPEmit_agree h
  case oFetch => exact execOFetch_agree h
  case oSend => exact execOSend_agree h
  case cEmit tod =>
    exact .ite (.finishOrHold h (limiterCall_agree h (.buildAndPush tod))) (.hold h)
  case cExit | pStop | oStop | cStop => exact .ite (.finish ⟨m, rfl⟩) (.hold h)
  case srcPush c =>
    exact .ite (.ite (.finishOrHold h (sourcePush_agree h c)) (.hold h)) (.refused _)
  case stageFault g => exact .ite (.finish (killStage_agree h g)) (.hold h)
  case hostDec b => exact execHostDec_agree h b
  case reset => exact .finish (.refl _)
  all_goals exact .finish ⟨m, rfl⟩

end Meanings

/-- Settles O30: `s` with another meter agrees with `s`, so every operation answers alike on the two. -/
theorem meterIsUnread : Obligations.MeterIsUnread := fun _ _ m hi => exec_agree hi ⟨m, rfl⟩

end Sys2Proof.Machine
end

section
/-! PROOF. O31, O33 and O35: the block times, the bytes of the context payload, and the errors that encoding a framed
packet can meet. -/

namespace Sys2Proof.Machine

/-! ### The block times (R176, R177) -/

section BlockTime
variable {s : State} (hrate : s.cfg.sampleRate ≠ 0)
include hrate

theorem sampleRate_toNat_pos : 0 < s.cfg.sampleRate.toNat :=
  Nat.pos_of_ne_zero fun h => hrate (BitVec.eq_of_toNat_eq h)

/-- The step is the quotient of `B * PS` by `R`, and 1 more when the remainders carry. -/
theorem blockTime_succ (k : Nat) : s.blockTime (k + 1) = s.blockTime k
    + (s.cfg.sampleCount.toNat * 10 ^ 12 / s.cfg.sampleRate.toNat
      + if s.cfg.sampleRate.toNat ≤ k * (s.cfg.sampleCount.toNat * 10 ^ 12) % s.cfg.sampleRate.toNat
          + s.cfg.sampleCount.toNat * 10 ^ 12 % s.cfg.sampleRate.toNat then 1 else 0) := by
  rw [blockTime_of_rate_ne_zero hrate, blockTime_of_rate_ne_zero hrate, Nat.mul_assoc, Nat.mul_assoc, Nat.succ_mul,
    Nat.add_div (sampleRate_toNat_pos hrate)]
  simp only [Nat.add_assoc]

theorem blockTime_zero : s.blockTime 0 = s.t0.toNat := by
  simp [blockTime_of_rate_ne_zero hrate]

/-- After `R` blocks, `B` seconds have passed. -/
theorem blockTime_sampleRate :
    s.blockTime s.cfg.sampleRate.toNat = s.t0.toNat + s.cfg.sampleCount.toNat * 10 ^ 12 := by
  rw [blockTime_of_rate_ne_zero hrate, Nat.mul_assoc, Nat.mul_div_cancel_left _ (sampleRate_toNat_pos hrate)]

theorem blockTime_le_succ (k : Nat) : s.blockTime k ≤ s.blockTime (k + 1) := by
  rw [blockTime_succ hrate]
  exact Nat.le_add_right _ _

/-- Equal steps add up. -/
theorem blockTime_of_step_eq {c : Nat} (hstep : ∀ k, s.blockTime (k + 1) - s.blockTime k = c) (k : Nat) :
    s.blockTime k = s.t0.toNat + k * c := by
  induction k with
  | zero => simp [blockTime_zero hrate]
  | succ k ih =>
    have hle := blockTime_le_succ hrate k
    have hk := hstep k
    rw [Nat.succ_mul]
    omega

/-- The steps are equal exactly when no remainder is left: `R` of them make up `B * PS`. -/
theorem blockTime_step_const_iff : (∃ c, ∀ k, s.blockTime (k + 1) - s.blockTime k = c) ↔
    s.cfg.sampleRate.toNat ∣ s.cfg.sampleCount.toNat * 10 ^ 12 := by
  constructor
  · rintro ⟨c, hstep⟩
    refine ⟨c, Nat.add_left_cancel (n := s.t0.toNat) ?_⟩
    rw [← blockTime_sampleRate hrate, blockTime_of_step_eq hrate hstep]
  · intro hdvd
    refine ⟨s.cfg.sampleCount.toNat * 10 ^ 12 / s.cfg.sampleRate.toNat, fun k => ?_⟩
    have hcarry : ¬ s.cfg.sampleRate.toNat ≤ k * (s.cfg.sampleCount.toNat * 10 ^ 12) % s.cfg.sampleRate.toNat
        + s.cfg.sampleCount.toNat * 10 ^ 12 % s.cfg.sampleRate.toNat := by
      rw [Nat.mod_eq_zero_of_dvd hdvd, Nat.add_zero]
      exact (Nat.mod_lt _ (sampleRate_toNat_pos hrate)).not_ge
    rw [blockTime_succ hrate, if_neg hcarry, Nat.add_zero, Nat.add_sub_cancel_left]

end BlockTime

/-- Settles O31: TS.BLOCK by its formula, the laws by the step. -/
theorem blockTimes : Obligations.BlockTimes := by
  intro s hrate B R
  refine ⟨fun k => ?formula, fun k => ⟨blockTime_le_succ hrate k, fun hlong => ?strict, ?step⟩,
    blockTime_step_const_iff hrate⟩
  case formula =>
    have hexec : exec (.tsBlock k) s = .next { s with out := .nat (s.blockTime k.toNat) } := rfl
    rw [hexec, blockTime_of_rate_ne_zero hrate]
  case strict =>
    have hpos : 0 < B * 10 ^ 12 / R := Nat.div_pos hlong (sampleRate_toNat_pos hrate)
    rw [blockTime_succ hrate]
    exact Nat.lt_add_of_pos_right (Nat.add_pos_left hpos _)
  case step =>
    rw [blockTime_succ hrate, Nat.add_sub_cancel_left]
    split
    · exact .inr rfl
    · exact .inl rfl

/-! ### The bytes of the context payload (R182) -/

/-- A substitution inside the 48 bytes puts the value's bytes at its offset and leaves the others. -/
theorem substitute_getElem? {t : Bytes} {off k : Nat} (v : Word) (drawn : Nat) (hoff : off ≤ 44) (hk : k < t.length) :
    (substitute t off v drawn)[k]? =
      if off ≤ k ∧ k < off + 4 then some ((be 4 v.toNat).getD (k - off) 0) else t[k]? := by
  split
  · next hin => simp [substitute, hk, hin, hoff]
  · next hout => exact substitute_getElem?_of_outside t v drawn (by omega)

/-- The last substitution that reaches a byte stands. -/
theorem contextPayload_getElem? {s : State} (hbw : offBw s.cfg.ctxOff ≤ 44) (hfreq : offFreq s.cfg.ctxOff ≤ 44)
    (hsr : offSr s.cfg.ctxOff ≤ 44) {k : Nat} (hk : k < 48) : s.contextPayload[k]? = some (
      if offSr s.cfg.ctxOff ≤ k ∧ k < offSr s.cfg.ctxOff + 4 then
        (be 4 s.cfg.sampleRate.toNat).getD (k - offSr s.cfg.ctxOff) 0
      else if offFreq s.cfg.ctxOff ≤ k ∧ k < offFreq s.cfg.ctxOff + 4 then
        (be 4 s.cfg.frequency.toNat).getD (k - offFreq s.cfg.ctxOff) 0
      else if offBw s.cfg.ctxOff ≤ k ∧ k < offBw s.cfg.ctxOff + 4 then
        (be 4 s.cfg.bandwidth.toNat).getD (k - offBw s.cfg.ctxOff) 0
      else s.cfg.templateByte k) := by
  have hlen := hk.trans_eq (templateBytes_length s.cfg).symm
  simp only [State.contextPayload, apply_ite some]
  rw [substitute_getElem? _ _ hsr (by simpa only [substitute_length]),
    substitute_getElem? _ _ hfreq (by simpa only [substitute_length]), substitute_getElem? _ _ hbw hlen,
    templateBytes_getElem? _ hk]

theorem slice_eq_of_getElem? {b x : Bytes} {off : Nat}
    (h : ∀ j, j < x.length → b[off + j]? = some (x.getD j 0)) : slice b off x.length = x := by
  refine List.ext_getElem? fun j => ?_
  rw [slice, List.getElem?_take, List.getElem?_drop]
  split
  · next hj => rw [h j hj, List.getD_eq_getElem?_getD, List.getElem?_eq_getElem hj, Option.getD_some]
  · next hj => exact (List.getElem?_eq_none (not_lt.mp hj)).symm

/-- Under offsets that START accepts each field is whole: no other one reaches its bytes. -/
theorem contextPayload_slices {s : State} (ho : OffsetsLegal s.cfg.ctxOff) :
    slice s.contextPayload (offBw s.cfg.ctxOff) 4 = be 4 s.cfg.bandwidth.toNat ∧
      slice s.contextPayload (offFreq s.cfg.ctxOff) 4 = be 4 s.cfg.frequency.toNat ∧
      slice s.contextPayload (offSr s.cfg.ctxOff) 4 = be 4 s.cfg.sampleRate.toNat := by
  obtain ⟨⟨hbw, hfreq, hsr⟩, hbf, hbs, hfs⟩ := ho
  have hbyte {k : Nat} := contextPayload_getElem? (k := k) hbw hfreq hsr
  refine ⟨slice_eq_of_getElem? (x := be 4 _) fun j (hj : j < 4) => ?bandwidth,
    slice_eq_of_getElem? (x := be 4 _) fun j (hj : j < 4) => ?frequency,
    slice_eq_of_getElem? (x := be 4 _) fun j (hj : j < 4) => ?sampleRate⟩
  case bandwidth =>
    rw [hbyte (by omega), if_neg (by omega), if_neg (by omega), if_pos (by omega), Nat.add_sub_cancel_left]
  case frequency => rw [hbyte (by omega), if_neg (by omega), if_pos (by omega), Nat.add_sub_cancel_left]
  case sampleRate => rw [hbyte (by omega), if_pos (by omega), Nat.add_sub_cancel_left]

/-- Settles O33: the payload byte by byte, and its three fields. -/
theorem ctxPayloadSubstitutes : Obligations.CtxPayloadSubstitutes := by
  intro s B F R hbw hfreq hsr
  exact ⟨s.contextPayload, rfl, contextPayload_length s, fun k => contextPayload_getElem? hbw hfreq hsr,
    contextPayload_slices⟩

/-! ### The errors of a framed packet (R119, R180, R183) -/

/-- Every field that a Packet announces is there. -/
structure FieldsPresent (p : Packet) : Prop where
  classId : ClassIdWhole p
  streamId : p.packetType = 1 → p.streamId ≠ none
  timestamp : p.timestamp ≠ none

/-- With its fields there, and a payload of whole words that fits, only the seconds can be refused. -/
theorem FieldsPresent.error_eq_tsRange {p : Packet} (h : FieldsPresent p) (haligned : p.data.length % 4 = 0)
    (hsize : pktSize p ≤ 65535) {l : Layout} {e : ErrCode} (he : pktEnc l p = .error e) : e = .tsRange := by
  by_cases hsec : p.tsi ≠ 0 ∧ 2 ^ 32 ≤ p.timestamp.getD 0 / 10 ^ 12
  · have herror : pktEncError p = some .tsRange := by
      rw [pktEncError_of_present h.classId h.streamId fun _ => h.timestamp, if_pos hsec]
    rw [pktEnc_of_error herror] at he
    exact (Except.error.inj he).symm
  · have hok : Encodable p := ⟨h.classId, h.streamId, fun _ => h.timestamp,
      fun htsi => not_le.mp fun hle => hsec ⟨htsi, hle⟩, haligned, hsize⟩
    rw [hok.pktEnc_eq] at he
    cases he

/-- A class identifier put in under one flag is whole. -/
theorem classIdWhole_of_flag {p : Packet} {c : Bool} {o : BitVec 24} {i k : BitVec 16}
    (ho : p.oui = if c then some o else none) (hi : p.infoClass = if c then some i else none)
    (hk : p.packetClass = if c then some k else none) : ClassIdWhole p := by
  rw [classIdWhole_iff, ho, hi, hk]
  cases c <;> simp

theorem dataPacket_fieldsPresent (s : State) (blk : Chunk) : FieldsPresent (s.dataPacket blk) where
  classId := classIdWhole_of_flag rfl rfl rfl
  streamId h := ne_of_eq_of_ne (if_pos h) (Option.some_ne_none _)
  timestamp := Option.some_ne_none _

theorem contextPacket_fieldsPresent (s : State) (tod : BitVec 96) : FieldsPresent (s.contextPacket tod) where
  classId := classIdWhole_of_flag rfl rfl rfl
  streamId h := ne_of_eq_of_ne (if_pos h) (Option.some_ne_none _)
  timestamp := Option.some_ne_none _

/-- The optional words are at most seven: stream-id, class identifier, timestamp and trailer. -/
theorem pktSize_le (p : Packet) : pktSize p ≤ 8 + p.data.length / 4 := by
  rw [pktSize, prefixWords_eq]
  split_ifs <;> omega

/-- The size that START checks is that of the packet of a block of `B` pairs (R198). -/
theorem pktSize_dataPacket {s : State} {blk : Chunk} (hblk : blk.length = s.cfg.sampleCount.toNat) :
    pktSize (s.dataPacket blk) = s.cfg.dataPacketWords := by
  have hcid : (Packet.classId? (s.dataPacket blk)).isSome = fmtCidEn s.cfg.dataFmt := by
    rw [(dataPacket_fieldsPresent s blk).classId.isSome_eq]
    exact isSome_ite_some _ _
  have htrailer : (s.dataPacket blk).trailer.isSome = fmtTrailerEn s.cfg.dataFmt := isSome_ite_some _ _
  have hdata : (s.dataPacket blk).data.length = 3 * s.cfg.blockSize := by
    rw [Cfg.blockSize, ← hblk]
    exact pack12_length blk
  rw [pktSize, hcid, htrailer, hdata, ite_eq_mul_toNat, Nat.one_mul]
  rfl

/-- START's checks 3 and 6 (R198), as far as a data packet needs them. -/
theorem aligned_and_fits_of_startError_eq_none {c : Cfg} (h : c.startError = none) :
    c.sampleCount.toNat % 4 = 0 ∧ c.dataPacketWords ≤ 65535 := by
  unfold Cfg.startError at h
  split_ifs at h with _ _ hblock _ _ hwords
  rw [not_or, not_not] at hblock
  exact ⟨hblock.2, not_lt.mp hwords⟩

theorem dataPacket_error_eq_tsRange {s : State} {blk : Chunk} {l : Layout} {e : ErrCode}
    (hstart : s.cfg.startError = none) (hblk : blk.length = s.cfg.sampleCount.toNat)
    (he : pktEnc l (s.dataPacket blk) = .error e) : e = .tsRange := by
  obtain ⟨hwhole, hwords⟩ := aligned_and_fits_of_startError_eq_none hstart
  have hdata : (s.dataPacket blk).data.length = 3 * blk.length := pack12_length blk
  exact (dataPacket_fieldsPresent s blk).error_eq_tsRange (by omega) ((pktSize_dataPacket hblk).trans_le hwords) he

/-- The payload of 12 words leaves a context packet at 20 words or fewer, whatever the configuration. -/
theorem contextPacket_error_eq_tsRange {s : State} {tod : BitVec 96} {l : Layout} {e : ErrCode}
    (he : pktEnc l (s.contextPacket tod) = .error e) : e = .tsRange := by
  have hdata : (s.contextPacket tod).data.length = 48 := contextPayload_length s
  have hsize := pktSize_le (s.contextPacket tod)
  exact (contextPacket_fieldsPresent s tod).error_eq_tsRange (by omega) (by omega) he

/-- Settles O35: a framed packet has its fields; START's checks give a data packet its alignment and size. -/
theorem onlyTimestampsFailInARun : Obligations.OnlyTimestampsFailInARun := fun _ =>
  ⟨fun _ _ => dataPacket_error_eq_tsRange, fun _ _ => contextPacket_error_eq_tsRange⟩

end Sys2Proof.Machine
end

section
/-! PROOF. O37, O38, O45 to O48, O42 and O51: what an operation of the pipeline answers when its guard is true. Each
meaning is a guard around a body, so with the guard true it is that body. -/

namespace Sys2Proof.Machine

/-! ### The queue primitives (R195, R196, R211, R212) -/

section Primitives

variable {s : State}

/-- Q.TRYPUSH on `DQ` as an answer: the item is appended, or its drop is counted. -/
theorem finish_tryPush_dq (s : State) (b : Bytes) : finish (s.tryPush (.dq b)).1 (s.tryPush (.dq b)).2 =
    .next (if s.dq.length < s.cfg.dqCap.toNat then { s with dq := s.dq ++ [b], out := .ok }
      else { s with dropDq := true, dropDqCnt := satInc s.dropDqCnt, out := .full }) := by
  simp only [State.tryPush]
  split <;> rfl

/-- Q.TRYPUSH on `OQ` as an answer. -/
theorem finish_tryPush_oq (s : State) (b : Bytes) : finish (s.tryPush (.oq b)).1 (s.tryPush (.oq b)).2 =
    .next (if s.oq.length < s.params.oqCap then { s with oq := s.oq ++ [b], out := .ok }
      else { s with dropOq := true, dropOqCnt := satInc s.dropOqCnt, out := .full }) := by
  simp only [State.tryPush]
  split <;> rfl

/-- Q.TRYPUSH on `IQ` as an answer: a full queue loses the chunk. -/
theorem finish_tryPush_iq (s : State) (c : Chunk) : finish (s.tryPush (.iq c)).1 (s.tryPush (.iq c)).2 =
    .next (if s.iq.length < s.params.iqCap then { s with iq := s.iq ++ [c], out := .ok }
      else { s with out := .full }) := by
  simp only [State.tryPush]
  split <;> rfl

theorem exec_qTryPush_of_fits {item : QueueItem} (h : s.itemFits item = true) :
    exec (.qTryPush item) s = finish (s.tryPush item).1 (s.tryPush item).2 := if_pos h

/-- SRC.PUSH of a chunk within `MAX_CHUNK`, while `RUNNING`. -/
theorem exec_srcPush_of_running {c : Chunk} (hfit : c.length ≤ s.params.maxChunk) (hrun : s.running = true) :
    exec (.srcPush c) s = finishOrHold s (s.sourcePush c) :=
  (if_pos (decide_eq_true hfit)).trans (if_pos hrun)

theorem sourcePush_of_room {c : Chunk} (h : s.iq.length < s.params.iqCap) :
    s.sourcePush c = some ({ s with iq := s.iq ++ [c] }, .ok) := if_pos h

theorem sourcePush_of_drop {c : Chunk} (hfull : s.params.iqCap ≤ s.iq.length)
    (hpolicy : s.params.inPushPolicy = .drop) : s.sourcePush c = some (s, .full) := by
  simp only [State.sourcePush, if_neg hfull.not_gt, hpolicy]

theorem pop_dq_of_cons {b : Bytes} {rest : List Bytes} (h : s.dq = b :: rest) :
    s.pop .dq = some ({ s with dq := rest }, .bytes b) := by simp only [State.pop, h]

theorem pop_oq_of_cons {b : Bytes} {rest : List Bytes} (h : s.oq = b :: rest) :
    s.pop .oq = some ({ s with oq := rest }, .bytes b) := by simp only [State.pop, h]

theorem pop_iq_of_cons {c : Chunk} {rest : List Chunk} (h : s.iq = c :: rest) :
    s.pop .iq = some ({ s with iq := rest }, .pairs c) := by simp only [State.pop, h]

/-- A meaning that may have no step, where it has one. -/
theorem finishOrHold_of_some {o : Option (State × Result)} {u : State} {r : Result} (h : o = some (u, r)) :
    finishOrHold s o = .next { u with out := r } := h ▸ rfl

end Primitives

/-- Settles O37: each push by the room it finds. -/
theorem pushesAppendOrDrop : Obligations.PushesAppendOrDrop := by
  refine fun s => ⟨finish_tryPush_dq s, finish_tryPush_oq s, fun c hfit =>
    ⟨?_, fun hrun hroom => ?_, fun hrun hfull hpolicy => ?_⟩⟩
  · have hitem : s.itemFits (.iq c) = true := decide_eq_true hfit
    rw [exec_qTryPush_of_fits hitem, finish_tryPush_iq]
  · rw [exec_srcPush_of_running hfit hrun, finishOrHold_of_some (sourcePush_of_room hroom)]
  · rw [exec_srcPush_of_running hfit hrun, finishOrHold_of_some (sourcePush_of_drop hfull hpolicy)]

/-- Settles O38: SNK.POP is Q.POP of `OQ`. -/
theorem popTakesOldest : Obligations.PopTakesOldest := fun _ =>
  ⟨fun _ _ hq => finishOrHold_of_some (pop_dq_of_cons hq), fun _ _ hq => finishOrHold_of_some (pop_oq_of_cons hq),
    fun _ _ hq => finishOrHold_of_some (pop_iq_of_cons hq), fun _ _ hq => finishOrHold_of_some (pop_oq_of_cons hq)⟩

/-! ### The stages' steps (R200 to R208) -/

section Steps

variable {s : State}

theorem canLoad_of_run (hp : s.pState = .run) (hs : s.stopReq = false)
    (hroom : s.acc.length < s.cfg.sampleCount.toNat) : s.canLoad = true := by
  simp [State.canLoad, State.accRoom, Cfg.blockSize, hp, hs, hroom]

theorem canEmit_of_run (hp : s.pState = .run) (hs : s.stopReq = false) : s.canEmit = true := by
  simp [State.canEmit, hp, hs]

theorem canFetch_of_wait (ho : s.oState = .wait) (hs : s.stopReq = false) : s.canFetch = true := by
  simp [State.canFetch, ho, hs]

theorem canSend_of_holding (ho : s.oState = .holding) (hs : s.stopReq = false) : s.canSend = true := by
  simp [State.canSend, ho, hs]

theorem canEmitContext_of_run (hc : s.cState = .run) (hs : s.stopReq = false) (hf : 0 < s.cfg.ctxFreq.toInt) :
    s.canEmitContext = true := by
  simp [State.canEmitContext, Cfg.ctxFreqInt, hc, hs, hf]

theorem canExit_of_run (hc : s.cState = .run) (hs : s.stopReq = false) (hf : s.cfg.ctxFreq.toInt ≤ 0) :
    s.canExit = true := by
  simp [State.canExit, Cfg.ctxFreqInt, hc, hs, hf]

/-- P.LOAD with its guard true (R201). -/
theorem exec_pLoad_of_run {c : Chunk} {rest : List Chunk} (hp : s.pState = .run) (hs : s.stopReq = false)
    (hroom : s.acc.length < s.cfg.sampleCount.toNat) (hq : s.iq = c :: rest) :
    exec .pLoad s = .next { s with iq := rest, acc := s.acc ++ c, out := .done } :=
  (if_pos (canLoad_of_run hp hs hroom)).trans (by rw [hq]; rfl)

/-- O.FETCH with its guard true (R204). -/
theorem exec_oFetch_of_wait {pkt : Bytes} {rest : List Bytes} (ho : s.oState = .wait) (hs : s.stopReq = false)
    (hq : s.dq = pkt :: rest) :
    exec .oFetch s = .next { s with dq := rest, oHold := some pkt, oState := .holding, out := .done } :=
  (if_pos (canFetch_of_wait ho hs)).trans (by rw [hq]; rfl)

/-- P.EMIT with its guard true: the oldest block is framed and pushed (R202). -/
theorem exec_pEmit_of_run (hp : s.pState = .run) (hs : s.stopReq = false)
    (hfull : s.cfg.sampleCount.toNat ≤ s.acc.length) :
    let a := State.frameAndPush { s with acc := s.acc.drop s.cfg.sampleCount.toNat }
      (s.acc.take s.cfg.sampleCount.toNat)
    exec .pEmit s = finish a.1 a.2 :=
  (if_pos (canEmit_of_run hp hs)).trans (by rw [accTake_of_full hfull]; rfl)

theorem frameAndPush_of_ok {blk : Chunk} {b : Bytes} (h : (s.frameData blk).2 = .ok b) :
    s.frameAndPush blk = (s.frameData blk).1.tryPush (.dq b) := by
  simp only [State.frameAndPush, h]

theorem frameAndPush_of_error {blk : Chunk} {e : ErrCode} (h : (s.frameData blk).2 = .error e) :
    s.frameAndPush blk = ((s.frameData blk).1.encodeFailed e opFrameData, .error e) := by
  simp only [State.frameAndPush, h]

/-- O.SEND with its guard true: the packet is pushed, the limiter marked, the meter told of a success, and the
hold cleared (R205). -/
theorem exec_oSend_of_holding {pkt : Bytes} (ho : s.oState = .holding) (hs : s.stopReq = false)
    (hp : s.oHold = some pkt) (hd : s.due .out = true) :
    let a := s.tryPush (.oq pkt)
    exec .oSend s = .next { (a.1.mark .out).observeIfOk a.2 pkt.length with
      oHold := none, oState := .wait, out := a.2 } := by
  refine (if_pos (canSend_of_holding ho hs)).trans ?_
  simp only [hp, State.limiterCall, if_pos hd, State.runWrapped, Option.map_some, finishOrHold_some, finish]

theorem tryPush_oq_of_room {b : Bytes} (h : s.oq.length < s.params.oqCap) :
    s.tryPush (.oq b) = ({ s with oq := s.oq ++ [b] }, .ok) := if_pos h

theorem tryPush_oq_of_full {b : Bytes} (h : ¬ s.oq.length < s.params.oqCap) :
    s.tryPush (.oq b) = (s.countDropOq, .full) := if_neg h

/-- C.EMIT with its guard true: a context packet is built and pushed, and the limiter marked (R207). -/
theorem exec_cEmit_of_run {tod : BitVec 96} (hc : s.cState = .run) (hs : s.stopReq = false)
    (hf : 0 < s.cfg.ctxFreq.toInt) (hd : s.due .ctx = true) :
    exec (.cEmit tod) s = finish ((s.buildAndPush tod).1.mark .ctx) (s.buildAndPush tod).2 := by
  refine (if_pos (canEmitContext_of_run hc hs hf)).trans ?_
  simp only [State.limiterCall, if_pos hd, State.runWrapped, Option.map_some, finishOrHold_some]

theorem buildAndPush_of_ok {tod : BitVec 96} {b : Bytes} (h : (s.frameCtx tod).2 = .ok b) :
    s.buildAndPush tod = (s.frameCtx tod).1.tryPush (.oq b) := by
  simp only [State.buildAndPush, h]

theorem buildAndPush_of_error {tod : BitVec 96} {e : ErrCode} (h : (s.frameCtx tod).2 = .error e) :
    s.buildAndPush tod = ((s.frameCtx tod).1.encodeFailed e opFrameCtx, .error e) := by
  simp only [State.buildAndPush, h]

/-- C.EXIT with its guard true (R208). -/
theorem exec_cExit_of_run (hc : s.cState = .run) (hs : s.stopReq = false) (hf : s.cfg.ctxFreq.toInt ≤ 0) :
    exec .cExit s = .next { s with cState := .done, out := .done } := if_pos (canExit_of_run hc hs hf)

end Steps

/-- Settles O45: both steps with their guards true. -/
theorem stagesPull : Obligations.StagesPull := fun _ hs =>
  ⟨fun _ _ hp hroom hq => exec_pLoad_of_run hp hs hroom hq, fun _ _ ho hq => exec_oFetch_of_wait ho hs hq⟩

/-- Settles O46: the block is framed with `ACC` already shortened, which no field of the packet reads. -/
theorem pEmitFramesAndPushes : Obligations.PEmitFramesAndPushes := by
  intro s hp hs hfull B framed
  let taken : State := { s with acc := s.acc.drop B }
  refine ⟨rfl, fun b hb => ?_, fun e he => ?_⟩
  · rw [exec_pEmit_of_run hp hs hfull, frameAndPush_of_ok (s := taken) hb, finish_tryPush_dq]
    rfl
  · rw [exec_pEmit_of_run hp hs hfull, frameAndPush_of_error (s := taken) he, encodeFailed_eq]
    rfl

/-- Settles O47: by the room in `OQ`; the meter reads neither the queue nor the mark. -/
theorem oSendPushesOnce : Obligations.OSendPushesOnce := by
  intro s pkt ho hs hp hdue
  have hd : s.due .out = true := (due_iff s .out).mpr hdue
  refine ⟨(s.observe pkt.length).mtr, rfl, ?_⟩
  rw [exec_oSend_of_holding ho hs hp hd]
  by_cases hroom : s.oq.length < s.params.oqCap
  · rw [if_pos hroom, tryPush_oq_of_room hroom]
    rfl
  · rw [if_neg hroom, tryPush_oq_of_full hroom]
    rfl

/-- Settles O48: C.EMIT by what becomes of the packet. -/
theorem contextStageSteps : Obligations.ContextStageSteps := by
  intro s hc hs
  refine ⟨exec_cExit_of_run hc hs, ?_⟩
  intro tod hf hdue framed
  have hd : s.due .ctx = true := (due_iff s .ctx).mpr fun t ht => by
    simpa [State.limiterNum, State.limiterDen, Cfg.ctxFreqInt] using hdue t ht
  refine ⟨rfl, fun b hb => ?_, fun e he => ?_⟩
  · rw [exec_cEmit_of_run hc hs hf hd, buildAndPush_of_ok hb]
    by_cases hroom : s.oq.length < s.params.oqCap
    · rw [if_pos hroom, tryPush_oq_of_room (s := (s.frameCtx tod).1) hroom]
      rfl
    · rw [if_neg hroom, tryPush_oq_of_full (s := (s.frameCtx tod).1) hroom]
      rfl
  · rw [exec_cEmit_of_run hc hs hf hd, buildAndPush_of_error he, encodeFailed_eq]
    rfl

/-! ### HOST.DEC and STAGE.FAULT (R213, R214) -/

theorem decodeFailed_eq (s : State) (e : ErrCode) : s.decodeFailed e = { s with
    decFail := true, decFailCnt := satInc s.decFailCnt
    errCode := if s.errCode = 0 then e.code else s.errCode
    errOp := if s.errCode = 0 then opPktDec else s.errOp } :=
  recordError_eq _ e opPktDec

/-- Settles O42: the answer by PKT.DEC's, the record by that of an error. -/
theorem hostDecRecords : Obligations.HostDecRecords := by
  refine fun b s => ⟨fun p hp => ?_, fun e he => ?_⟩
  · simp only [exec, execHostDec, hp]
    rfl
  · simp only [exec, execHostDec, he, decodeFailed_eq]
    rfl

/-- STAGE.FAULT on a stage in a running state (R213). -/
theorem exec_stageFault_of_running {s : State} {g : Stage} (h : s.stageRunning g = true) :
    exec (.stageFault g) s = finish (s.killStage g) .done := if_pos h

/-- Settles O51: each stage in its running states, and the record of the fault. -/
theorem stageFaultKillsOneStage : Obligations.StageFaultKillsOneStage := by
  intro s recorded
  refine ⟨fun hp => ?_, fun ho => ?_, fun hc => ?_⟩
  · rw [exec_stageFault_of_running (by simp [State.stageRunning, hp]), State.killStage, recordError_eq]
    rfl
  · rw [exec_stageFault_of_running (by simpa [State.stageRunning] using ho), State.killStage, recordError_eq]
    rfl
  · rw [exec_stageFault_of_running (by simp [State.stageRunning, hc]), State.killStage, recordError_eq]
    rfl

end Sys2Proof.Machine
end

section
/-! PROOF. For O60: an agent's step while `RUNNING`. START is then ignored, so a step other than RESET is put together
out of effects, and what a stage waits for is taken away by that stage alone. -/

namespace Sys2Proof.Machine

/-! ### The stages' exits (R199) -/

/-- The step with which a stage leaves once a stop is requested. -/
def exitStep : Stage → Instr
  | .p => .pStop
  | .o => .oStop
  | .c => .cStop

/-- The state that a stage's exit leaves: stage O gives up its held packet. -/
def State.leave (s : State) : Stage → State
  | .p => { s with pState := .off }
  | .o => { s with oHold := none, oState := .off }
  | .c => { s with cState := .off }

theorem agentOf_exitStep (g : Stage) : agentOf (exitStep g) = some (.stage g) := by cases g <;> rfl

theorem exec_exitStep (s : State) (g : Stage) : exec (exitStep g) s =
    if s.stopReq && s.stageRunning g then finish (s.leave g) .done else hold s := by
  cases g <;> rfl

section Takes

variable {i : Instr} {s t : State} {g : Stage}

/-- A stage ceases to run by its exit or a fault, stage C also by C.EXIT; none starts to run by an effect. -/
theorem Effect.stageRunning_owner (he : Effect i s t) (hne : t.stageRunning g ≠ s.stageRunning g) :
    i = exitStep g ∨ i = .stageFault g ∨ (g = .c ∧ i = .cExit) := by
  cases he with
  | hold _ _ hg | release _ hg => exact absurd (by cases g <;> simp [State.stageRunning, hg]) hne
  | killP ho | killO ho | killC ho => cases g <;> first | exact .inr (.inl ho) | exact absurd rfl hne
  | stopP ho | stopO ho | stopC ho => cases g <;> first | exact .inl ho | exact absurd rfl hne
  | exitC ho => cases g <;> first | exact .inr (.inr ⟨rfl, ho⟩) | exact absurd rfl hne
  | _ => exact absurd rfl hne

theorem Effect.stageRunning_false (he : Effect i s t) (h : s.stageRunning g = false) :
    t.stageRunning g = false := by
  cases he with
  | hold _ _ hg | release _ hg => cases g <;> simp_all [State.stageRunning]
  | killP | killO | killC | stopP | stopO | stopC | exitC => cases g <;> first | rfl | exact h
  | _ => exact h

theorem completeStop_stageRunning (s : State) (g : Stage) : s.completeStop.stageRunning g = s.stageRunning g := by
  cases g <;> simp [State.stageRunning]

theorem stageRunning_p_iff : s.stageRunning .p = true ↔ s.pState = .run := by simp [State.stageRunning]

theorem stageRunning_o_iff : s.stageRunning .o = true ↔ s.oState = .wait ∨ s.oState = .holding := by
  simp [State.stageRunning]

theorem stageRunning_c_iff : s.stageRunning .c = true ↔ s.cState = .run := by simp [State.stageRunning]

theorem exec_exitStep_of_stop (hs : s.stopReq = true) (hg : s.stageRunning g = true) :
    exec (exitStep g) s = .next { s.leave g with out := .done } := by
  rw [exec_exitStep, hs, hg]
  rfl

/-! ### A step that waits, and one that does not -/

theorem not_takes_of_waits (h : exec i s = hold s) : ¬ Takes i s t := by
  intro hk
  obtain ⟨u, hu, ho, -⟩ := takes_cases hk
  rw [h, hold_eq_next] at hu
  exact ho (hu ▸ rfl)

theorem enabled_of_exec (ha : (agentOf i).isSome = true) (hw : WellFormed i = true) (h : exec i s = .next t)
    (ho : t.out ≠ .held) : Enabled i s :=
  ⟨t.completeStop, ha, hw, by rw [h]; rfl, by rwa [State.completeStop_out]⟩

theorem Takes.agentOf_ne_none (h : Takes i s t) : agentOf i ≠ none := Option.isSome_iff_ne_none.mp h.1

/-! ### What a step keeps while `RUNNING` -/

theorem Takes.legal (h : Takes i s t) (hs : Legal s) : Legal t := by
  obtain ⟨u, hu, -, rfl⟩ := takes_cases h
  exact (exec_legalInStep hs.inStep hu).completeStop

/-- While `RUNNING`, every operation but RESET is put together out of its effects: START is ignored (R198). -/
theorem exec_effects_of_running (hrun : s.running = true) (hr : i ≠ .reset) (h : exec i s = .next t) :
    Effects i s t := by
  by_cases hs : ∃ tod, i = .start tod
  · obtain ⟨tod, rfl⟩ := hs
    obtain ⟨-, rfl⟩ | ⟨hno, -⟩ := execStart_cases h
    · exact .single (.answer .done)
    · simp [hrun] at hno
  · exact exec_effects hr (not_exists.mp hs) h

/-- A register that is not `RUNNING` and that a step changes is changed by an effect of its owner. -/
theorem Takes.owner {α : Type} {P : Prop} (h : Takes i s t) (hrun : s.running = true) (hr : i ≠ .reset)
    (f : State → α) (hc : ∀ u : State, f u.completeStop = f u)
    (hf : ∀ {u v : State}, Effect i u v → f v ≠ f u → P) (hne : f t ≠ f s) : P := by
  obtain ⟨u, hu, -, rfl⟩ := takes_cases h
  rw [hc] at hne
  exact (exec_effects_of_running hrun hr hu).owner f hf hne

theorem Takes.cfg_eq (h : Takes i s t) (hrun : s.running = true) (hr : i ≠ .reset) : t.cfg = s.cfg := by
  obtain ⟨u, hu, -, rfl⟩ := takes_cases h
  rw [State.completeStop_cfg]
  exact exec_cfg_of_running hrun hr hu

theorem Takes.params_eq (h : Takes i s t) : t.params = s.params := by
  obtain ⟨u, hu, -, rfl⟩ := takes_cases h
  rw [State.completeStop_params]
  exact exec_params hu

theorem Takes.now_le (h : Takes i s t) : s.now ≤ t.now := by
  obtain ⟨u, hu, -, rfl⟩ := takes_cases h
  rw [State.completeStop_now]
  exact (onlyTickMovesTime.2 i s u hu).2.1

theorem Takes.stopReq_eq (h : Takes i s t) (hrun : s.running = true) (hr : i ≠ .reset) (hi : i ≠ .stop) :
    t.stopReq = s.stopReq := by
  by_contra hne
  exact hi (h.owner hrun hr State.stopReq State.completeStop_stopReq Effect.stopReq_owner hne)

theorem Takes.stopReq_true (h : Takes i s t) (hrun : s.running = true) (hr : i ≠ .reset) (hs : s.stopReq = true) :
    t.stopReq = true := by
  obtain ⟨u, hu, -, rfl⟩ := takes_cases h
  have hk : KeepsRecord s u := (exec_effects_of_running hrun hr hu).keeps (fun _ _ => Effect.keepsRecord) (.refl s)
  rw [State.completeStop_stopReq]
  exact hk.stopReq hs

theorem Takes.stageRunning_false (h : Takes i s t) (hrun : s.running = true) (hr : i ≠ .reset)
    (hg : s.stageRunning g = false) : t.stageRunning g = false := by
  obtain ⟨u, hu, -, rfl⟩ := takes_cases h
  rw [completeStop_stageRunning]
  exact (exec_effects_of_running hrun hr hu).keeps (I := fun u => u.stageRunning g = false)
    (fun _ _ => Effect.stageRunning_false) hg

/-- A stage that takes its exit is out (R199). -/
theorem Takes.exitStep_leaves (h : Takes (exitStep g) s t) : t.stageRunning g = false := by
  obtain ⟨u, hu, ho, rfl⟩ := takes_cases h
  rw [completeStop_stageRunning]
  rw [exec_exitStep] at hu
  split at hu
  · obtain rfl := (finish_eq_next _ _ _).mp hu
    cases g <;> rfl
  · exact absurd (congrArg State.out ((hold_eq_next _ _).mp hu)) ho

/-- Of the agents' steps P.LOAD and P.EMIT alone write `ACC` (R250). -/
theorem Takes.acc_eq (h : Takes i s t) (hrun : s.running = true) (hr : i ≠ .reset) (hl : i ≠ .pLoad)
    (he : i ≠ .pEmit) : t.acc = s.acc := by
  by_contra hne
  obtain hi | hi | rfl | ⟨c, rfl⟩ := h.owner hrun hr State.acc State.completeStop_acc Effect.acc_owner hne
  · exact hl hi
  · exact he hi
  · exact h.agentOf_ne_none rfl
  · exact h.agentOf_ne_none rfl

theorem Takes.rlOutLast_eq (h : Takes i s t) (hrun : s.running = true) (hr : i ≠ .reset) (hi : i ≠ .oSend) :
    t.rlOutLast = s.rlOutLast := by
  by_contra hne
  obtain hs | rfl | ⟨op, rfl⟩ :=
    h.owner hrun hr State.rlOutLast State.completeStop_rlOutLast Effect.rlOutLast_owner hne
  · exact hi hs
  · exact h.agentOf_ne_none rfl
  · exact h.agentOf_ne_none rfl

theorem Takes.rlCtxLast_eq (h : Takes i s t) (hrun : s.running = true) (hr : i ≠ .reset)
    (hi : ∀ tod, i ≠ .cEmit tod) : t.rlCtxLast = s.rlCtxLast := by
  by_contra hne
  obtain ⟨tod, hs⟩ | rfl | ⟨op, rfl⟩ :=
    h.owner hrun hr State.rlCtxLast State.completeStop_rlCtxLast Effect.rlCtxLast_owner hne
  · exact hi tod hs
  · exact h.agentOf_ne_none rfl
  · exact h.agentOf_ne_none rfl

/-! ### What stands in `IQ` and `DQ` -/

theorem tryPush_dq_prefix (s : State) (b : Bytes) : s.dq <+: (s.tryPush (.dq b)).1.dq := by
  simp only [State.tryPush]
  split
  · exact List.prefix_append s.dq [b]
  · exact List.prefix_rfl

theorem tryPush_dq_iq (s : State) (b : Bytes) : (s.tryPush (.dq b)).1.iq = s.iq := by
  simp only [State.tryPush]
  split <;> rfl

theorem tryPush_oq_iq (s : State) (b : Bytes) : (s.tryPush (.oq b)).1.iq = s.iq := by
  simp only [State.tryPush]
  split <;> rfl

theorem frameAndPush_iq (s : State) (blk : Chunk) : (s.frameAndPush blk).1.iq = s.iq := by
  obtain ⟨e, -, h⟩ | ⟨b, -, h⟩ := frameAndPush_cases s blk <;> rw [h]
  · exact State.recordError_iq _ e opFrameData
  · exact tryPush_dq_iq _ b

theorem frameAndPush_dq_prefix (s : State) (blk : Chunk) : s.dq <+: (s.frameAndPush blk).1.dq := by
  obtain ⟨e, -, h⟩ | ⟨b, -, h⟩ := frameAndPush_cases s blk <;> rw [h]
  · exact (State.recordError_dq _ e opFrameData).symm ▸ List.prefix_rfl
  · exact tryPush_dq_prefix (s.frameData blk).1 b

theorem buildAndPush_iq (s : State) (tod : BitVec 96) : (s.buildAndPush tod).1.iq = s.iq := by
  obtain ⟨e, -, h⟩ | ⟨b, -, h⟩ := buildAndPush_cases s tod <;> rw [h]
  · exact State.recordError_iq _ e opFrameCtx
  · exact tryPush_oq_iq _ b

/-- The meaning answers a next state with the property `R`, or a refusal. -/
def Answers (R : State → Prop) : Answer → Prop
  | .next t => R t
  | .fault _ => False
  | .refused _ => True

section Meanings

variable {R : State → Prop}

theorem Answers.finish {u : State} {r : Result} (h : R { u with out := r }) : Answers R (finish u r) := h

theorem Answers.hold (h : R { s with out := .held }) : Answers R (hold s) := h

theorem Answers.refused (why : Refusal) : Answers R (.refused why) := trivial

theorem Answers.ite {c : Prop} [Decidable c] {a b : Answer} (ha : Answers R a) (hb : Answers R b) :
    Answers R (if c then a else b) := by
  split
  · exact ha
  · exact hb

theorem Answers.finishOrHold {o : Option (State × Result)} (hh : R { s with out := .held })
    (h : ∀ u r, o = some (u, r) → R { u with out := r }) : Answers R (finishOrHold s o) := by
  cases o with
  | none => exact hh
  | some a => exact h a.1 a.2 rfl

theorem Answers.of_next {a : Answer} (h : Answers R a) (ha : a = .next t) : R t := by
  subst ha
  exact h

end Meanings

theorem sourcePush_iq_prefix {c : Chunk} {r : Result} (h : s.sourcePush c = some (t, r)) : s.iq <+: t.iq := by
  obtain ⟨-, rfl, -⟩ | ⟨-, -, rfl, -⟩ := sourcePush_cases h
  · exact List.prefix_append s.iq [c]
  · exact List.prefix_rfl

theorem killStage_iq (s : State) (g : Stage) : (s.killStage g).iq = s.iq :=
  congrArg Queues.iq (killStage_queues s g)

theorem execPEmit_iq (h : execPEmit s = .next t) : t.iq = s.iq := by
  obtain rfl | ⟨u, r, -, -, -, hu, rfl⟩ := execPEmit_cases h
  · rfl
  · exact (congrArg (·.1.iq) hu).symm.trans (frameAndPush_iq _ _)

theorem execPEmit_dq_prefix (h : execPEmit s = .next t) : s.dq <+: t.dq := by
  obtain rfl | ⟨u, r, -, -, -, hu, rfl⟩ := execPEmit_cases h
  · exact List.prefix_rfl
  · have hpre := frameAndPush_dq_prefix { s with acc := s.acc.drop s.cfg.blockSize } (s.acc.take s.cfg.blockSize)
    rwa [hu] at hpre

theorem execOSend_iq (h : execOSend s = .next t) : t.iq = s.iq := by
  obtain rfl | ⟨pkt, u, r, -, -, -, -, hu, rfl⟩ := execOSend_cases h
  · rfl
  · have hkeep : ((u.mark .out).observeIfOk r pkt.length).iq = u.iq :=
      congrArg Queues.iq ((observeIfOk_queues _ r _).trans (mark_queues u .out))
    exact hkeep.trans ((congrArg (·.1.iq) hu).symm.trans (tryPush_oq_iq s pkt))

theorem execCEmit_iq {tod : BitVec 96} (h : execCEmit tod s = .next t) : t.iq = s.iq := by
  obtain rfl | ⟨u, r, -, -, -, -, hu, rfl⟩ := execCEmit_cases h
  · rfl
  · exact (congrArg Queues.iq (mark_queues u .ctx)).trans ((congrArg (·.1.iq) hu).symm.trans (buildAndPush_iq s tod))

theorem execHostDec_iq {b : Bytes} (h : execHostDec b s = .next t) : t.iq = s.iq := by
  unfold execHostDec at h
  split at h <;> obtain rfl := (finish_eq_next _ _ _).mp h
  · exact congrArg Queues.iq (decodeFailed_queues s _)
  · rfl

/-- Of the agents' steps P.LOAD alone takes a chunk out of `IQ`, but for RESET and START (R250). -/
theorem exec_iq_prefix (ha : agentOf i ≠ none) (hr : i ≠ .reset) (hs : ∀ tod, i ≠ .start tod) (hl : i ≠ .pLoad)
    (h : exec i s = .next t) : s.iq <+: t.iq := by
  have hkeep : s.iq <+: s.iq := List.prefix_rfl
  have hiq (hi : Answers (fun u => s.iq <+: u.iq) (exec i s)) : s.iq <+: t.iq := hi.of_next h
  cases i
  case reset => exact absurd rfl hr
  case start tod => exact absurd rfl (hs tod)
  case pLoad => exact absurd rfl hl
  case pEmit => exact execPEmit_iq h ▸ hkeep
  case oFetch => obtain rfl | ⟨pkt, rest, -, -, -, rfl⟩ := execOFetch_cases h <;> exact hkeep
  case oSend => exact execOSend_iq h ▸ hkeep
  case cEmit => exact execCEmit_iq h ▸ hkeep
  case hostDec => exact execHostDec_iq h ▸ hkeep
  case srcPush =>
    exact hiq (.ite (.ite (.finishOrHold hkeep fun _ _ => sourcePush_iq_prefix) (.hold hkeep)) (.refused _))
  case snkPop =>
    obtain ⟨-, rfl⟩ | ⟨u, r, hu, rfl⟩ := finishOrHold_cases h
    · exact hkeep
    · obtain ⟨_, _, hq, -⟩ | ⟨b, rest, -, -, rfl, -⟩ | ⟨_, _, hq, -⟩ := pop_cases hu
      · cases hq
      · exact hkeep
      · cases hq
  case stageFault g => exact hiq (.ite (.finish (killStage_iq s g ▸ hkeep)) (.hold hkeep))
  case stop | cfgWrite => exact hiq (.ite (.finish hkeep) (.finish hkeep))
  case cExit | pStop | oStop | cStop => exact hiq (.ite (.finish hkeep) (.hold hkeep))
  case tick | regRead => exact hiq (.finish hkeep)
  all_goals exact absurd rfl ha

end Takes

end Sys2Proof.Machine
end

section
/-! PROOF. O60: weakly fair runs. A stage in which no force intervenes keeps what it waits for until its step is taken,
and that step is enabled from some tick on; so fairness has it taken (`Run.leadsTo`). -/

namespace Sys2Proof.Machine

section Steps

variable {i : Instr} {s t : State} {g : Stage}

/-! ### A stage at work -/

/-- Stage `g` is in a running state of a legal state, and no stop is requested. -/
structure Working (g : Stage) (s : State) : Prop where
  legal : Legal s
  noStop : s.stopReq = false
  stage : s.stageRunning g = true

/-- What takes a stage from its work: a stop, a reset, or a fault of the stage. -/
abbrev Interrupts (g : Stage) (i : Instr) : Prop := i = .stop ∨ i = .reset ∨ i = .stageFault g

/-- A stage runs in a run alone (R198, R199). -/
theorem running_of_stageRunning (hl : StagesRunInARun s) (hg : s.stageRunning g = true) : s.running = true := by
  by_contra hrun
  obtain ⟨hp, ⟨hw, hh⟩, hc⟩ := (allStagesOut_iff s).mp (hl (Bool.eq_false_of_not_eq_true hrun))
  cases g with
  | p => exact hp (stageRunning_p_iff.mp hg)
  | o => exact (stageRunning_o_iff.mp hg).elim hw hh
  | c => exact hc (stageRunning_c_iff.mp hg)

theorem Working.running (h : Working g s) : s.running = true := running_of_stageRunning h.legal.stages h.stage

/-- With no stop requested no stage leaves (R199). -/
theorem exitStep_waits (hs : s.stopReq = false) : exec (exitStep g) s = hold s := by
  rw [exec_exitStep, hs]
  rfl

/-- A stage that no force takes from its work stays at work, but for C.EXIT. -/
theorem Working.next (hw : Working g s) (h : Takes i s t) (hi : ¬ Interrupts g i) (hx : g = .c → i ≠ .cExit) :
    Working g t := by
  obtain ⟨hstop, hr, hfault⟩ : i ≠ .stop ∧ i ≠ .reset ∧ i ≠ .stageFault g := by simpa [not_or] using hi
  refine ⟨h.legal hw.legal, (h.stopReq_eq hw.running hr hstop).trans hw.noStop, ?_⟩
  rw [← hw.stage]
  by_contra hne
  obtain rfl | hf | ⟨hg, he⟩ := h.owner hw.running hr (·.stageRunning g) (completeStop_stageRunning · g)
    Effect.stageRunning_owner hne
  · exact not_takes_of_waits (exitStep_waits hw.noStop) h
  · exact hfault hf
  · exact hx hg he

/-- `O_STATE` moves by O.FETCH and O.SEND, or leaves the running states. -/
theorem Takes.oState_eq (h : Takes i s t) (hw : Working .o s) (hi : ¬ Interrupts .o i) (hf : i ≠ .oFetch)
    (hs : i ≠ .oSend) : t.oState = s.oState := by
  by_contra hne
  obtain hj | hj | rfl | hj := h.owner hw.running (fun hr => hi (.inr (.inl hr))) (fun u => (u.oHold, u.oState))
    (fun u => by rw [State.completeStop_oHold, State.completeStop_oState]) Effect.stageO_owner
    (fun he => hne (Prod.mk.inj he).2)
  · exact hf hj
  · exact hs hj
  · exact not_takes_of_waits (exitStep_waits (g := .o) hw.noStop) h
  · exact hi (.inr (.inr hj))

/-! ### What a stage waits for -/

theorem exec_start_of_running {tod : BitVec 96} (h : s.running = true) :
    exec (.start tod) s = .next { s with out := .done } := if_pos (by simp [h])

/-- While `RUNNING`, P.LOAD alone takes a chunk out of `IQ`. -/
theorem Takes.iq_ne_nil (h : Takes i s t) (hrun : s.running = true) (hr : i ≠ .reset) (hl : i ≠ .pLoad)
    (hq : s.iq ≠ []) : t.iq ≠ [] := by
  obtain ⟨u, hu, -, rfl⟩ := takes_cases h
  rw [State.completeStop_iq]
  by_cases hs : ∃ tod, i = .start tod
  · obtain ⟨tod, rfl⟩ := hs
    obtain rfl := Host.Outcome.next.inj ((exec_start_of_running hrun).symm.trans hu)
    exact hq
  · exact (exec_iq_prefix h.agentOf_ne_none hr (not_exists.mp hs) hl hu).ne_nil hq

/-- While `RUNNING`, O.FETCH alone takes a packet out of `DQ`. -/
theorem Takes.dq_ne_nil (h : Takes i s t) (hrun : s.running = true) (hr : i ≠ .reset) (hf : i ≠ .oFetch)
    (hq : s.dq ≠ []) : t.dq ≠ [] := by
  obtain ⟨u, hu, -, rfl⟩ := takes_cases h
  rw [State.completeStop_dq]
  by_cases hs : ∃ tod, i = .start tod
  · obtain ⟨tod, rfl⟩ := hs
    obtain rfl := Host.Outcome.next.inj ((exec_start_of_running hrun).symm.trans hu)
    exact hq
  by_cases he : i = .pEmit
  · subst he
    exact (execPEmit_dq_prefix hu).ne_nil hq
  · rw [(exec_keepsDq hr (not_exists.mp hs) he hf h.agentOf_ne_none hu).1]
    exact hq

/-! ### The tick at which a limiter is due (R160) -/

/-- From this tick on the limiter is due, whatever its positive denominator. -/
def State.dueTick (s : State) (l : Limiter) : Nat := (s.limiterLast l).getD 0 + s.limiterNum l * s.params.tickHz

theorem due_of_dueTick_le {l : Limiter} (hden : 0 < s.limiterDen l) (h : s.dueTick l ≤ s.now) : s.due l = true := by
  refine (due_iff s l).mpr fun t ht => ?_
  have hgap : (s.limiterNum l : Int) * s.params.tickHz ≤ (s.now : Int) - t := by
    simp only [State.dueTick, ht, Option.getD_some] at h
    push_cast [← Int.ofNat_le] at h
    omega
  have hnonneg : 0 ≤ (s.now : Int) - t := le_trans (by positivity) hgap
  exact hgap.trans (le_mul_of_one_le_right hnonneg hden)

theorem Takes.dueTick_out_eq (h : Takes i s t) (hrun : s.running = true) (hr : i ≠ .reset) (hi : i ≠ .oSend) :
    t.dueTick .out = s.dueTick .out := by
  simp only [State.dueTick, State.limiterLast, State.limiterNum, h.rlOutLast_eq hrun hr hi, h.cfg_eq hrun hr,
    h.params_eq]

theorem Takes.dueTick_ctx_eq (h : Takes i s t) (hrun : s.running = true) (hr : i ≠ .reset)
    (hi : ∀ tod, i ≠ .cEmit tod) : t.dueTick .ctx = s.dueTick .ctx := by
  simp only [State.dueTick, State.limiterLast, State.limiterNum, h.rlCtxLast_eq hrun hr hi, h.params_eq]

/-- START's check 2: the sample rate of a run is positive (R198). -/
theorem rate_pos_of_startError_eq_none {c : Cfg} (h : c.startError = none) : 0 < c.rate := by
  unfold Cfg.startError at h
  split_ifs at h with _ hrate
  exact Nat.pos_of_ne_zero hrate

/-! ### Steps that are enabled -/

theorem tryPush_result_ne_held (s : State) (item : QueueItem) : (s.tryPush item).2 ≠ .held := by
  obtain ⟨_, -, -, h⟩ | ⟨_, -, -, h⟩ | ⟨_, -, -, h⟩ | ⟨_, -, -, h⟩ | ⟨_, -, -, h⟩ | ⟨_, -, -, h⟩ :=
    tryPush_cases s item <;> rw [h] <;> exact nofun

theorem frameAndPush_result_ne_held (s : State) (blk : Chunk) : (s.frameAndPush blk).2 ≠ .held := by
  obtain ⟨e, -, h⟩ | ⟨b, -, h⟩ := frameAndPush_cases s blk <;> rw [h]
  · exact nofun
  · exact tryPush_result_ne_held _ _

theorem buildAndPush_result_ne_held (s : State) (tod : BitVec 96) : (s.buildAndPush tod).2 ≠ .held := by
  obtain ⟨e, -, h⟩ | ⟨b, -, h⟩ := buildAndPush_cases s tod <;> rw [h]
  · exact nofun
  · exact tryPush_result_ne_held _ _

theorem Working.pState_eq (h : Working .p s) : s.pState = .run := stageRunning_p_iff.mp h.stage

theorem Working.cState_eq (h : Working .c s) : s.cState = .run := stageRunning_c_iff.mp h.stage

theorem Working.pEmit_enabled (h : Working .p s) (hfull : s.cfg.sampleCount.toNat ≤ s.acc.length) :
    Enabled .pEmit s :=
  enabled_of_exec rfl rfl (exec_pEmit_of_run h.pState_eq h.noStop hfull) (frameAndPush_result_ne_held _ _)

theorem Working.pLoad_enabled (h : Working .p s) (hroom : s.acc.length < s.cfg.sampleCount.toNat)
    (hq : s.iq ≠ []) : Enabled .pLoad s := by
  obtain ⟨c, rest, hc⟩ := List.exists_cons_of_ne_nil hq
  exact enabled_of_exec rfl rfl (exec_pLoad_of_run h.pState_eq h.noStop hroom hc) nofun

theorem Working.oFetch_enabled (h : Working .o s) (ho : s.oState = .wait) (hq : s.dq ≠ []) : Enabled .oFetch s := by
  obtain ⟨b, rest, hb⟩ := List.exists_cons_of_ne_nil hq
  exact enabled_of_exec rfl rfl (exec_oFetch_of_wait ho h.noStop hb) nofun

theorem Working.oSend_enabled (h : Working .o s) (ho : s.oState = .holding) (hd : s.due .out = true) :
    Enabled .oSend s := by
  obtain ⟨pkt, hp⟩ := Option.isSome_iff_exists.mp (h.legal.hold.mp ho)
  exact enabled_of_exec rfl rfl (exec_oSend_of_holding ho h.noStop hp hd) (tryPush_result_ne_held _ _)

theorem Working.cEmit_enabled (h : Working .c s) (hf : 0 < s.cfg.ctxFreq.toInt) (hd : s.due .ctx = true)
    (tod : BitVec 96) : Enabled (.cEmit tod) s :=
  enabled_of_exec rfl rfl (exec_cEmit_of_run h.cState_eq h.noStop hf hd) (buildAndPush_result_ne_held _ _)

theorem Working.cExit_enabled (h : Working .c s) (hf : s.cfg.ctxFreq.toInt ≤ 0) : Enabled .cExit s :=
  enabled_of_exec rfl rfl (exec_cExit_of_run h.cState_eq h.noStop hf) nofun

/-- With a stop requested a stage in a running state can leave (R199). -/
theorem exitStep_enabled (hs : s.stopReq = true) (hg : s.stageRunning g = true) : Enabled (exitStep g) s :=
  enabled_of_exec (by rw [agentOf_exitStep]; rfl) (by cases g <;> rfl) (exec_exitStep_of_stop hs hg) nofun

end Steps

/-! ### Operations by their OPID (R77) -/

section Opids

variable {j : Instr}

/-- A stage's step without operands is told by its OPID. -/
theorem eq_of_opid_eq {i : Instr} {g : Stage} (hi : agentOf i = some (.stage g)) (hc : ∀ tod, i ≠ .cEmit tod)
    (h : opid j = opid i) : j = i := by
  cases i <;> simp only [agentOf, reduceCtorEq, Option.some.injEq] at hi
  case cEmit tod => exact absurd rfl (hc tod)
  all_goals cases j <;> simp [opid] at h ⊢

theorem exists_cEmit_of_opid_eq {tod : BitVec 96} (h : opid j = opid (.cEmit tod)) : ∃ tod, j = .cEmit tod := by
  cases j <;> simp [opid] at h ⊢

end Opids

/-! ### Runs -/

section Runs

variable {r : Run} {n : Nat}

theorem Run.legal (h : Legal (r.state 0)) (n : Nat) : Legal (r.state n) := by
  induction n with
  | zero => exact h
  | succ n ih => exact (r.taken n).legal ih

theorem Run.now_mono (r : Run) : Monotone fun n => (r.state n).now :=
  monotone_nat_of_le_succ fun n => (r.taken n).now_le

/-- In a fair run `NOW` passes every tick (R210): TICK is taken again and again. -/
theorem Run.now_unbounded (hf : WeaklyFair r) (n T : Nat) : ∃ m, n ≤ m ∧ T ≤ (r.state m).now := by
  induction T with
  | zero => exact ⟨n, le_rfl, Nat.zero_le _⟩
  | succ T ih =>
    obtain ⟨m, hm, hT⟩ := ih
    obtain ⟨k, a, hk, hmove⟩ := hf.2 m
    have htick := r.taken k
    rw [hmove] at htick
    have ha : 1 ≤ a := of_decide_eq_true htick.2.1
    obtain ⟨u, hu, -, hnext⟩ := takes_cases htick
    obtain rfl := Host.Outcome.next.inj hu
    have hnow : (r.state (k + 1)).now = (r.state k).now + a := by rw [hnext, State.completeStop_now]
    have hmono : (r.state m).now ≤ (r.state k).now := r.now_mono hk
    exact ⟨k + 1, by omega, by omega⟩

/-- If the moves outside `Q` keep `P`, and `P` has a step of a stage enabled from some tick on, then a move in `Q`
follows `P`, provided that step is in `Q`. -/
theorem Run.leadsTo (hf : WeaklyFair r) {i : Instr} {g : Stage} (hi : agentOf i = some (.stage g))
    {P : State → Prop} {Q : Instr → Prop} (hkeep : ∀ j s t, Takes j s t → P s → ¬ Q j → P t) (T : Nat)
    (henabled : ∀ s, P s → T ≤ s.now → Enabled i s) (hstep : ∀ j, opid j = opid i → Q j)
    (hn : P (r.state n)) : ∃ m, n ≤ m ∧ Q (r.move m) := by
  by_contra hno
  push Not at hno
  have hP : ∀ m, n ≤ m → P (r.state m) :=
    Nat.le_induction hn fun m hm ih => hkeep _ _ _ (r.taken m) ih (hno m hm)
  obtain ⟨N, hN, hT⟩ := Run.now_unbounded hf n T
  obtain ⟨m, hm, hmove | hdisabled⟩ := hf.1 i g N hi
  · exact hno m (hN.trans hm) (hstep _ hmove)
  · exact hdisabled i rfl (henabled _ (hP m (hN.trans hm)) (hT.trans (r.now_mono hm)))

/-- The same for a step that is told by its OPID, unless a force takes the stage from its work. -/
theorem Run.step_taken (hf : WeaklyFair r) {i : Instr} {g : Stage} (hi : agentOf i = some (.stage g))
    (hc : ∀ tod, i ≠ .cEmit tod) {P : State → Prop}
    (hkeep : ∀ j s t, Takes j s t → P s → j ≠ i → ¬ Interrupts g j → P t) (T : Nat)
    (henabled : ∀ s, P s → T ≤ s.now → Enabled i s) (hn : P (r.state n)) :
    ∃ m, n ≤ m ∧ (r.move m = i ∨ Interrupts g (r.move m)) :=
  Run.leadsTo hf hi (Q := fun j => j = i ∨ Interrupts g j)
    (fun j s t h hP hno => have ⟨hj, hg⟩ := not_or.mp hno; hkeep j s t h hP hj hg) T henabled
    (fun _ hj => .inl (eq_of_opid_eq hi hc hj)) hn

/-! ### Each hold and what lifts it (R209) -/

/-- A full block is emitted. -/
theorem Run.pEmit_taken (hf : WeaklyFair r) (hw : Working .p (r.state n))
    (hfull : (r.state n).cfg.sampleCount.toNat ≤ (r.state n).acc.length) :
    ∃ m, n ≤ m ∧ (r.move m = .pEmit ∨ Interrupts .p (r.move m)) := by
  refine Run.step_taken hf (P := fun s => Working .p s ∧ s.cfg.sampleCount.toNat ≤ s.acc.length) rfl nofun
    (fun j s t h ⟨hw, hfull⟩ hemit hi => ?_) 0 (fun s ⟨hw, hfull⟩ _ => hw.pEmit_enabled hfull) ⟨hw, hfull⟩
  have hr : j ≠ .reset := fun hr => hi (.inr (.inl hr))
  have hload : j ≠ .pLoad := by
    rintro rfl
    exact not_takes_of_waits (pLoad_waits (.inl (canLoad_eq_false_iff.mpr (.inr (.inr hfull))))) h
  refine ⟨hw.next h hi nofun, ?_⟩
  rwa [h.cfg_eq hw.running hr, h.acc_eq hw.running hr hload hemit]

/-- Below a full block a chunk in `IQ` is loaded. -/
theorem Run.pLoad_taken (hf : WeaklyFair r) (hw : Working .p (r.state n))
    (hroom : (r.state n).acc.length < (r.state n).cfg.sampleCount.toNat) (hq : (r.state n).iq ≠ []) :
    ∃ m, n ≤ m ∧ (r.move m = .pLoad ∨ Interrupts .p (r.move m)) := by
  refine Run.step_taken hf (P := fun s => Working .p s ∧ s.acc.length < s.cfg.sampleCount.toNat ∧ s.iq ≠ []) rfl nofun
    (fun j s t h ⟨hw, hroom, hq⟩ hload hi => ?_) 0 (fun s ⟨hw, hroom, hq⟩ _ => hw.pLoad_enabled hroom hq)
    ⟨hw, hroom, hq⟩
  have hr : j ≠ .reset := fun hr => hi (.inr (.inl hr))
  have hemit : j ≠ .pEmit := by
    rintro rfl
    exact not_takes_of_waits (pEmit_waits (.inr hroom)) h
  refine ⟨hw.next h hi nofun, ?_, h.iq_ne_nil hw.running hr hload hq⟩
  rwa [h.cfg_eq hw.running hr, h.acc_eq hw.running hr hload hemit]

/-- An idle stage O fetches a packet in `DQ`. -/
theorem Run.oFetch_taken (hf : WeaklyFair r) (hw : Working .o (r.state n)) (ho : (r.state n).oState = .wait)
    (hq : (r.state n).dq ≠ []) : ∃ m, n ≤ m ∧ (r.move m = .oFetch ∨ Interrupts .o (r.move m)) := by
  refine Run.step_taken hf (P := fun s => Working .o s ∧ s.oState = .wait ∧ s.dq ≠ []) rfl nofun
    (fun j s t h ⟨hw, ho, hq⟩ hfetch hi => ?_) 0 (fun s ⟨hw, ho, hq⟩ _ => hw.oFetch_enabled ho hq) ⟨hw, ho, hq⟩
  have hsend : j ≠ .oSend := by
    rintro rfl
    exact not_takes_of_waits (oSend_waits (.inl (canSend_eq_false_iff.mpr (.inl (by simp [ho]))))) h
  exact ⟨hw.next h hi nofun, (h.oState_eq hw hi hfetch hsend).trans ho,
    h.dq_ne_nil hw.running (fun hr => hi (.inr (.inl hr))) hfetch hq⟩

/-- A held packet is sent: its limiter becomes due. -/
theorem Run.oSend_taken (hf : WeaklyFair r) (hw : Working .o (r.state n)) (ho : (r.state n).oState = .holding) :
    ∃ m, n ≤ m ∧ (r.move m = .oSend ∨ Interrupts .o (r.move m)) := by
  let T := (r.state n).dueTick .out
  refine Run.step_taken hf (P := fun s => Working .o s ∧ s.oState = .holding ∧ s.dueTick .out = T) rfl nofun
    (fun j s t h ⟨hw, ho, hT⟩ hsend hi => ?_) T (fun s ⟨hw, ho, hT⟩ hnow => ?_) ⟨hw, ho, rfl⟩
  · have hfetch : j ≠ .oFetch := by
      rintro rfl
      exact not_takes_of_waits (oFetch_waits (.inl (canFetch_eq_false_iff.mpr (.inl (by simp [ho]))))) h
    exact ⟨hw.next h hi nofun, (h.oState_eq hw hi hfetch hsend).trans ho,
      (h.dueTick_out_eq hw.running (fun hr => hi (.inr (.inl hr))) hsend).trans hT⟩
  · obtain ⟨hcfg, -⟩ := hw.legal.configured hw.running
    have hrate : 0 < s.limiterDen .out := Int.natCast_pos.mpr (rate_pos_of_startError_eq_none hcfg)
    exact hw.oSend_enabled ho (due_of_dueTick_le hrate (hT.trans_le hnow))

/-- With a positive `CFG_CTX_FREQ` a context packet is built, whatever `TOD` the step reads. -/
theorem Run.cEmit_taken (hf : WeaklyFair r) (hw : Working .c (r.state n))
    (hfreq : 0 < (r.state n).cfg.ctxFreq.toInt) :
    ∃ m, n ≤ m ∧ ((∃ tod, r.move m = .cEmit tod) ∨ Interrupts .c (r.move m)) := by
  let T := (r.state n).dueTick .ctx
  refine Run.leadsTo hf (i := .cEmit 0) rfl
    (P := fun s => Working .c s ∧ 0 < s.cfg.ctxFreq.toInt ∧ s.dueTick .ctx = T)
    (Q := fun j => (∃ tod, j = .cEmit tod) ∨ Interrupts .c j) (fun j s t h ⟨hw, hfreq, hT⟩ hno => ?_) T
    (fun s ⟨hw, hfreq, hT⟩ hnow => hw.cEmit_enabled hfreq (due_of_dueTick_le hfreq (hT.trans_le hnow)) 0)
    (fun j hj => .inl (exists_cEmit_of_opid_eq hj)) ⟨hw, hfreq, rfl⟩
  obtain ⟨hemit, hi⟩ := not_or.mp hno
  have hr : j ≠ .reset := fun hr => hi (.inr (.inl hr))
  have hexit : j ≠ .cExit := by
    rintro rfl
    exact not_takes_of_waits (cExit_waits (canExit_eq_false_iff.mpr (.inr (.inr hfreq)))) h
  exact ⟨hw.next h hi fun _ => hexit, (h.cfg_eq hw.running hr).symm ▸ hfreq,
    (h.dueTick_ctx_eq hw.running hr (not_exists.mp hemit)).trans hT⟩

/-- Without one, stage C exits. -/
theorem Run.cExit_taken (hf : WeaklyFair r) (hw : Working .c (r.state n))
    (hfreq : (r.state n).cfg.ctxFreq.toInt ≤ 0) :
    ∃ m, n ≤ m ∧ (r.move m = .cExit ∨ Interrupts .c (r.move m)) :=
  Run.step_taken hf (P := fun s => Working .c s ∧ s.cfg.ctxFreq.toInt ≤ 0) rfl nofun
    (fun _ _ _ h ⟨hw, hfreq⟩ hexit hi =>
      ⟨hw.next h hi fun _ => hexit, (h.cfg_eq hw.running fun hr => hi (.inr (.inl hr))).symm ▸ hfreq⟩)
    0 (fun _ ⟨hw, hfreq⟩ _ => hw.cExit_enabled hfreq) ⟨hw, hfreq⟩

/-! ### A requested stop ends (R199, R209) -/

/-- From `n` on a requested stop is pending. -/
def Run.StopPends (r : Run) (n : Nat) : Prop :=
  ∀ m, n ≤ m → (r.state m).running = true ∧ (r.state m).stopReq = true

theorem Takes.reset_ends {s t : State} (h : Takes .reset s t) : t.running = false := by
  obtain ⟨u, hu, -, rfl⟩ := takes_cases h
  obtain rfl := Host.Outcome.next.inj hu
  simp [State.reset]

theorem Run.move_ne_reset {m : Nat} (h : (r.state (m + 1)).running = true) : r.move m ≠ .reset := by
  intro hr
  have hend := (hr ▸ r.taken m : Takes .reset _ _).reset_ends
  rw [h] at hend
  cases hend

/-- While a run does not end, a stop once requested stays requested. -/
theorem Run.stopPends_of_running (hrun : ∀ m, n ≤ m → (r.state m).running = true)
    (hs : (r.state n).stopReq = true) : r.StopPends n := by
  have hreq : ∀ m, n ≤ m → (r.state m).stopReq = true :=
    Nat.le_induction hs fun m hm ih =>
      (r.taken m).stopReq_true (hrun m hm) (Run.move_ne_reset (hrun (m + 1) (by omega))) ih
  exact fun m hm => ⟨hrun m hm, hreq m hm⟩

/-- Every stage leaves sooner or later. -/
theorem Run.StopPends.stage_leaves (hp : r.StopPends n) (hf : WeaklyFair r) (g : Stage) {N : Nat} (hN : n ≤ N) :
    ∃ m, N ≤ m ∧ (r.state m).stageRunning g = false := by
  by_contra hno
  push Not at hno
  obtain ⟨m, hm, hmove | hdisabled⟩ := hf.1 (exitStep g) g N (agentOf_exitStep g)
  · have hexit : r.move m = exitStep g := eq_of_opid_eq (agentOf_exitStep g) (by cases g <;> exact nofun) hmove
    exact hno (m + 1) (by omega) (hexit ▸ r.taken m : Takes (exitStep g) _ _).exitStep_leaves
  · have hrun : (r.state m).stageRunning g = true := Bool.eq_true_of_not_eq_false (hno m hm)
    exact hdisabled _ rfl (exitStep_enabled (hp m (hN.trans hm)).2 hrun)

/-- A stage that is out stays out. -/
theorem Run.StopPends.stage_stays_out (hp : r.StopPends n) {g : Stage} {m : Nat} (hm : n ≤ m)
    (hg : (r.state m).stageRunning g = false) : ∀ k, m ≤ k → (r.state k).stageRunning g = false :=
  Nat.le_induction hg fun k hk ih =>
    have hrun := hp k (hm.trans hk)
    have hnext := hp (k + 1) (by omega)
    (r.taken k).stageRunning_false hrun.1 (Run.move_ne_reset hnext.1) ih

/-- A requested stop ends: each stage leaves, and then the run is over. -/
theorem Run.stop_ends (hf : WeaklyFair r) (hl : ∀ m, Legal (r.state m)) (hs : (r.state n).stopReq = true) :
    ∃ m, n ≤ m ∧ (r.state m).running = false := by
  by_contra hno
  push Not at hno
  have hp : r.StopPends n := Run.stopPends_of_running (fun m hm => Bool.eq_true_of_not_eq_false (hno m hm)) hs
  obtain ⟨a, ha, hpOut⟩ := hp.stage_leaves hf .p le_rfl
  obtain ⟨b, hb, hoOut⟩ := hp.stage_leaves hf .o ha
  obtain ⟨c, hc, hcOut⟩ := hp.stage_leaves hf .c (ha.trans hb)
  have hout : (r.state c).allStagesOut = true := by
    rw [State.allStagesOut, hp.stage_stays_out ha hpOut c (hb.trans hc), hp.stage_stays_out (ha.trans hb) hoOut c hc,
      hcOut]
    rfl
  have hnc : n ≤ c := ha.trans (hb.trans hc)
  exact hno c hnc ((hl c).stop (hp c hnc).2 hout)

end Runs

/-- Settles O60: each hold by the step that lifts it, the stop by the exits of the stages. -/
theorem holdsAreLifted : Obligations.HoldsAreLifted := by
  intro r h0 hf n s later
  have hl : ∀ m, Legal (r.state m) := Run.legal h0
  have hwork {g : Stage} (hs : s.stopReq = false) (hg : s.stageRunning g = true) : Working g s := ⟨hl n, hs, hg⟩
  refine ⟨fun hs => ⟨fun hp => Run.pEmit_taken hf (hwork hs (stageRunning_p_iff.mpr hp)),
    fun hp => Run.pLoad_taken hf (hwork hs (stageRunning_p_iff.mpr hp)),
    fun ho => Run.oFetch_taken hf (hwork hs (stageRunning_o_iff.mpr (.inl ho))) ho,
    fun ho => Run.oSend_taken hf (hwork hs (stageRunning_o_iff.mpr (.inr ho))) ho,
    fun hc => Run.cEmit_taken hf (hwork hs (stageRunning_c_iff.mpr hc)),
    fun hc => Run.cExit_taken hf (hwork hs (stageRunning_c_iff.mpr hc))⟩, Run.stop_ends hf hl⟩

end Sys2Proof.Machine
end

section
/-! PROOF. O4 and O41: what a step does with the operation presented, and the three exits in any order. -/

namespace Sys2Proof.Machine

/-! ### No operation faults (R230) -/

theorem execStart_answers (tod : BitVec 96) (s : State) : Answers (fun _ => True) (execStart tod s) := by
  unfold execStart
  split
  · trivial
  · split <;> trivial

theorem execHostDec_answers (b : Bytes) (s : State) : Answers (fun _ => True) (execHostDec b s) := by
  unfold execHostDec
  split <;> trivial

theorem execPLoad_answers (s : State) : Answers (fun _ => True) (execPLoad s) := by
  refine .ite ?_ (.hold trivial)
  split <;> trivial

theorem execOFetch_answers (s : State) : Answers (fun _ => True) (execOFetch s) := by
  refine .ite ?_ (.hold trivial)
  split <;> trivial

theorem finishOrHold_answers_any (s : State) (o : Option (State × Result)) :
    Answers (fun _ => True) (finishOrHold s o) := .finishOrHold trivial fun _ _ _ => trivial

theorem execOSend_answers (s : State) : Answers (fun _ => True) (execOSend s) := by
  refine .ite ?_ (.hold trivial)
  split
  · trivial
  · exact finishOrHold_answers_any s _

/-- Every operation answers a next state or is refused. The last group is that of the operations that end in one
`finish`. -/
theorem exec_answers (i : Instr) (s : State) : Answers (fun _ => True) (exec i s) := by
  cases i
  case bfEnc | pktSize | stop | cfgWrite => exact .ite (.finish trivial) (.finish trivial)
  case accPush => exact .ite (.ite (.finish trivial) (.hold trivial)) (.refused _)
  case accEmit | rlCall | qPop | snkPop => exact finishOrHold_answers_any s _
  case qTryPush => exact .ite (.finish trivial) (.refused _)
  case start tod => exact execStart_answers tod s
  case pLoad => exact execPLoad_answers s
  case oFetch => exact execOFetch_answers s
  case oSend => exact execOSend_answers s
  case pEmit | cEmit => exact .ite (finishOrHold_answers_any s _) (.hold trivial)
  case cExit | pStop | oStop | cStop | stageFault => exact .ite (.finish trivial) (.hold trivial)
  case srcPush => exact .ite (.ite (finishOrHold_answers_any s _) (.hold trivial)) (.refused _)
  case hostDec b => exact execHostDec_answers b s
  all_goals exact .finish trivial

theorem exec_ne_fault (i : Instr) (s : State) (f : Fault) : exec i s ≠ .fault f := by
  intro h
  have hany := exec_answers i s
  rw [h] at hany
  exact hany

/-! ### A step with an operation presented (log 1) -/

theorem step_of_agenda {s : State} {t : Transfer} {rest : List Transfer} {i : Instr} (ha : s.agenda = t :: rest)
    (hd : decode t = .ok i) : step s = afterStep (exec i { s with agenda := rest }) := by
  have hf : s.fetch = (t, { s with agenda := rest }) := by simp only [State.fetch, ha]
  simp only [step, hf, perform, hd]

theorem PState.ne_run_iff (p : PState) : p ≠ .run ↔ p = .off ∨ p = .dead := by cases p <;> simp

theorem OState.out_iff (o : OState) : (o ≠ .wait ∧ o ≠ .holding) ↔ o = .off ∨ o = .dead := by cases o <;> simp

theorem CState.ne_run_iff (c : CState) : c ≠ .run ↔ c = .off ∨ c = .done ∨ c = .dead := by cases c <;> simp

/-- The completion of a stop, with the states a stage out may be in (R199). -/
theorem completeStop_eq (s : State) : s.completeStop =
    if s.stopReq = true ∧ (s.pState = .off ∨ s.pState = .dead) ∧ (s.oState = .off ∨ s.oState = .dead) ∧
        (s.cState = .off ∨ s.cState = .done ∨ s.cState = .dead) then { s with running := false } else s := by
  simp only [State.completeStop, Bool.and_eq_true, allStagesOut_iff, PState.ne_run_iff, OState.out_iff,
    CState.ne_run_iff]

/-- Settles O4: the fetch takes the transfer presented, and `afterStep` completes a stop. -/
theorem stepRunsDecoded : Obligations.StepRunsDecoded := by
  intro s t rest i ha hd
  have hstep := step_of_agenda ha hd
  refine ⟨fun u hu => ?_, exec_ne_fault i _, fun r hr => ?_⟩
  · rw [hstep, hu, ← completeStop_eq]
    rfl
  · rw [hstep, hr]
    rfl

/-! ### The exits (R199) -/

section Exits

variable {s : State} {g h : Stage} {rest : List Transfer}

theorem leave_stageRunning_same (s : State) (g : Stage) : (s.leave g).stageRunning g = false := by cases g <;> rfl

theorem leave_stageRunning_other (s : State) (hne : h ≠ g) : (s.leave g).stageRunning h = s.stageRunning h := by
  cases g <;> cases h <;> first | rfl | exact absurd rfl hne

theorem leave_running (s : State) (g : Stage) : (s.leave g).running = s.running := by cases g <;> rfl

theorem leave_stopReq (s : State) (g : Stage) : (s.leave g).stopReq = s.stopReq := by cases g <;> rfl

/-- The state after a stage's exit, before the completion of a stop. -/
def State.afterExit (s : State) (g : Stage) (rest : List Transfer) : State :=
  { s.leave g with agenda := rest, out := .done }

theorem afterExit_stageRunning (s : State) (g h : Stage) (rest : List Transfer) :
    (s.afterExit g rest).stageRunning h = (s.leave g).stageRunning h := by cases h <;> rfl

/-- A step that performs a stage's exit. -/
theorem step_exitStep (hs : s.stopReq = true) (hg : s.stageRunning g = true)
    (ha : s.agenda = encode (exitStep g) :: rest) : step s = .next (s.afterExit g rest).completeStop := by
  have hd : decode (encode (exitStep g)) = .ok (exitStep g) := decodeInvertsEncode _ (by cases g <;> rfl)
  have hg' : State.stageRunning { s with agenda := rest } g = true := by cases g <;> exact hg
  rw [step_of_agenda ha hd, exec_exitStep_of_stop (s := { s with agenda := rest }) hs hg']
  cases g <;> rfl

/-- While another stage runs, the run goes on. -/
theorem completeStop_of_running (hh : s.stageRunning h = true) : s.completeStop = s := by
  obtain ⟨-, hout, -⟩ | ⟨-, he⟩ := completeStop_cases s
  · cases h <;> simp [State.allStagesOut, hh] at hout
  · exact he

/-- With every stage out, the run ends. -/
theorem completeStop_of_out (hs : s.stopReq = true) (hout : ∀ g, s.stageRunning g = false) :
    s.completeStop = { s with running := false } := by
  simp [State.completeStop, State.allStagesOut, hs, hout]

theorem exec_stop (s : State) :
    exec .stop s = .next (if s.running then { s with stopReq := true, out := .done } else { s with out := .done }) := by
  simp only [exec, execStop]
  split <;> rfl

/-- The exits in some order are those of three different stages. -/
theorem exits_of_perm {a b c : Instr} (hp : [a, b, c].Perm [.pStop, .oStop, .cStop]) :
    ∃ g h k : Stage, (g ≠ h ∧ g ≠ k ∧ h ≠ k) ∧ a = exitStep g ∧ b = exitStep h ∧ c = exitStep k := by
  have hexit : ∀ i ∈ [a, b, c], ∃ g, i = exitStep g := by
    intro i hi
    obtain rfl | rfl | rfl : i = .pStop ∨ i = .oStop ∨ i = .cStop := by simpa using hp.subset hi
    · exact ⟨.p, rfl⟩
    · exact ⟨.o, rfl⟩
    · exact ⟨.c, rfl⟩
  have hnodup : [a, b, c].Nodup := hp.nodup_iff.mpr (by simp)
  obtain ⟨g, rfl⟩ := hexit a (by simp)
  obtain ⟨h, rfl⟩ := hexit b (by simp)
  obtain ⟨k, rfl⟩ := hexit c (by simp)
  refine ⟨g, h, k, ⟨?_, ?_, ?_⟩, rfl, rfl, rfl⟩ <;> rintro rfl <;> simp at hnodup

/-- What the three exits leave, whatever their order. -/
theorem afterExit_all (s : State) {g h k : Stage} (hd : g ≠ h ∧ g ≠ k ∧ h ≠ k) (q q' rest : List Transfer) :
    ((s.afterExit g q).afterExit h q').afterExit k rest = { s with
      pState := .off, oState := .off, cState := .off, oHold := none, agenda := rest, out := .done } := by
  obtain ⟨hgh, hgk, hhk⟩ := hd
  cases g <;> cases h <;> cases k <;>
    first
    | exact absurd rfl hgh
    | exact absurd rfl hgk
    | exact absurd rfl hhk
    | simp only [State.afterExit, State.leave]

/-- The first two exits end nothing, the third one ends the run. -/
theorem steps_of_exits {k : Stage} (hd : g ≠ h ∧ g ≠ k ∧ h ≠ k) (hs : s.stopReq = true)
    (hrun : ∀ j, s.stageRunning j = true)
    (ha : s.agenda = encode (exitStep g) :: encode (exitStep h) :: encode (exitStep k) :: rest) :
    let u := s.afterExit g (encode (exitStep h) :: encode (exitStep k) :: rest)
    let v := u.afterExit h (encode (exitStep k) :: rest)
    step s = .next u ∧ step u = .next v ∧ step v = .next { v.afterExit k rest with running := false } := by
  intro u v
  obtain ⟨hgh, hgk, hhk⟩ := hd
  have hus : u.stopReq = true := (leave_stopReq s g).trans hs
  have hvs : v.stopReq = true := (leave_stopReq u h).trans hus
  have huh : u.stageRunning h = true := by rw [afterExit_stageRunning, leave_stageRunning_other s hgh.symm, hrun]
  have huk : u.stageRunning k = true := by rw [afterExit_stageRunning, leave_stageRunning_other s hgk.symm, hrun]
  have hvk : v.stageRunning k = true := by rw [afterExit_stageRunning, leave_stageRunning_other u hhk.symm, huk]
  refine ⟨?_, ?_, ?_⟩
  · rw [step_exitStep hs (hrun g) ha, completeStop_of_running huh]
  · rw [step_exitStep hus huh rfl, completeStop_of_running hvk]
  · have hws : (v.afterExit k rest).stopReq = true := (leave_stopReq v k).trans hvs
    rw [step_exitStep hvs hvk rfl, completeStop_of_out hws fun j => ?_]
    rw [afterExit_all s ⟨hgh, hgk, hhk⟩]
    cases j <;> rfl

end Exits

/-- Settles O41: each exit by its guard, the three in any order as those of three different stages. -/
theorem stopEndsTheRun : Obligations.StopEndsTheRun := by
  intro s
  refine ⟨exec_stop s, fun hs hp => exec_exitStep_of_stop (g := .p) hs (stageRunning_p_iff.mpr hp),
    fun hs ho => exec_exitStep_of_stop (g := .o) hs (stageRunning_o_iff.mpr ho),
    fun hs hc => exec_exitStep_of_stop (g := .c) hs (stageRunning_c_iff.mpr hc), ?_⟩
  intro a b c rest hs hp ho hc hperm ha
  obtain ⟨g, h, k, hd, rfl, rfl, rfl⟩ := exits_of_perm hperm
  have hrun : ∀ j, s.stageRunning j = true
    | .p => stageRunning_p_iff.mpr hp
    | .o => stageRunning_o_iff.mpr ho
    | .c => stageRunning_c_iff.mpr hc
  obtain ⟨hu, hv, hw⟩ := steps_of_exits hd hs hrun ha
  have hurun := leave_running s g
  refine ⟨_, _, _, hu, hv, hw, hurun, (leave_running _ h).trans hurun, ?_⟩
  rw [afterExit_all s hd]

end Sys2Proof.Machine
end

section
/-! PROOF. O40: START's checks as the rules write them. A field of a register is 0 exactly when its bits are, and so is
the register under a shift or a mask. -/

namespace Sys2Proof.Machine

/-! ### Reserved bits (R15 to R18) -/

theorem eq_zero_iff_getLsbD {n : Nat} (w : BitVec n) : w = 0 ↔ ∀ j, j < n → w.getLsbD j = false :=
  ⟨fun h j _ => by rw [h]; exact BitVec.getLsbD_zero,
    fun h => BitVec.eq_of_getLsbD_eq fun j hj => (h j hj).trans BitVec.getLsbD_zero.symm⟩

theorem extractLsb'_eq_zero_iff (w : Word) (k n : Nat) :
    w.extractLsb' k n = 0 ↔ ∀ j, j < n → w.getLsbD (k + j) = false := by
  rw [eq_zero_iff_getLsbD]
  refine forall₂_congr fun j hj => ?_
  rw [BitVec.getLsbD_extractLsb', decide_eq_true hj, Bool.true_and]

/-- The bits from `k` on are 0. -/
theorem shift_eq_zero_iff (w : Word) (k n : Nat) (hk : k + n = 32) : w >>> k = 0 ↔ w.extractLsb' k n = 0 := by
  rw [extractLsb'_eq_zero_iff, eq_zero_iff_getLsbD]
  simp only [BitVec.getLsbD_ushiftRight]
  refine ⟨fun h j hj => h j (by omega), fun h j _ => ?_⟩
  by_cases hj : j < n
  · exact h j hj
  · exact BitVec.getLsbD_of_ge w (k + j) (by omega)

/-- The mask of R18's reserved bits: 7:6, 15:14 and 31:22. -/
theorem reservedMask_getLsbD : ∀ j < 32, (0xFFC0C0C0 : Word).getLsbD j =
    decide ((6 ≤ j ∧ j < 8) ∨ (14 ≤ j ∧ j < 16) ∨ 22 ≤ j) := by
  decide

theorem offReserved_eq_zero_iff (w : Word) : w &&& 0xFFC0C0C0 = 0 ↔ offReservedZero w = true := by
  simp only [offReservedZero, Bool.and_eq_true, beq_iff_eq, extractLsb'_eq_zero_iff]
  rw [eq_zero_iff_getLsbD]
  refine ⟨fun h => ?_, fun ⟨⟨hlow, hmid⟩, hhigh⟩ j hj => ?_⟩
  · have hbit : ∀ j, j < 32 → (6 ≤ j ∧ j < 8) ∨ (14 ≤ j ∧ j < 16) ∨ 22 ≤ j → w.getLsbD j = false := by
      intro j hj hmask
      have hw := h j hj
      rwa [BitVec.getLsbD_and, reservedMask_getLsbD j hj, decide_eq_true hmask, Bool.and_true] at hw
    exact ⟨⟨fun j hj => hbit _ (by omega) (by omega), fun j hj => hbit _ (by omega) (by omega)⟩,
      fun j hj => hbit _ (by omega) (by omega)⟩
  · rw [BitVec.getLsbD_and, reservedMask_getLsbD j hj]
    by_cases hmask : (6 ≤ j ∧ j < 8) ∨ (14 ≤ j ∧ j < 16) ∨ 22 ≤ j
    · suffices w.getLsbD j = false by rw [this, Bool.false_and]
      obtain ⟨hlo, hhi⟩ | ⟨hlo, hhi⟩ | hlo := hmask <;> obtain ⟨m, rfl⟩ := Nat.exists_eq_add_of_le hlo
      · exact hlow m (by omega)
      · exact hmid m (by omega)
      · exact hhigh m (by omega)
    · rw [decide_eq_false hmask, Bool.and_false]

/-- Check 5 as a disjunction over the registers with reserved bits. -/
theorem reservedZero_eq_false_iff (c : Cfg) : c.reservedZero = false ↔
    c.dataFmt >>> 10 ≠ 0 ∨ c.ctxFmt >>> 13 ≠ 0 ∨ c.dataOui >>> 24 ≠ 0 ∨ c.ctxOui >>> 24 ≠ 0 ∨
      c.ctxOff &&& 0xFFC0C0C0 ≠ 0 := by
  rw [← Bool.not_eq_true, ← not_iff_comm]
  simp only [not_or, not_not]
  rw [shift_eq_zero_iff _ 10 22 rfl, shift_eq_zero_iff _ 13 19 rfl, shift_eq_zero_iff _ 24 8 rfl,
    shift_eq_zero_iff _ 24 8 rfl, offReserved_eq_zero_iff]
  simp [Cfg.reservedZero, and_assoc]

/-! ### The context payload's offsets (R18) -/

theorem rangesMeet_eq_false_iff (a b : Nat) : rangesMeet a b = false ↔ a + 4 ≤ b ∨ b + 4 ≤ a := by
  simp only [rangesMeet, Bool.and_eq_false_iff, decide_eq_false_iff_not, not_lt]
  exact or_comm

theorem offsetsLegal_iff (w : Word) : offsetsLegal w = true ↔ OffsetsLegal w := by
  simp only [offsetsLegal, Bool.and_eq_true, Bool.not_eq_true', decide_eq_true_eq, rangesMeet_eq_false_iff,
    OffsetsLegal, and_assoc]

/-! ### The checks (R198) -/

/-- The words of a data packet, written out (R118, R198). -/
theorem dataPacketWords_eq (c : Cfg) : c.dataPacketWords =
    1 + (if c.dataFmt.extractLsb' 0 4 = 1 then 1 else 0) + 2 * (c.dataFmt.getLsbD 9).toNat
      + (if c.dataFmt.extractLsb' 4 2 = 0 then 0 else 1) + 2 * (if c.dataFmt.extractLsb' 6 2 = 0 then 0 else 1)
      + 3 * c.sampleCount.toNat / 4 + (c.dataFmt.getLsbD 8).toNat := by
  have hcid : (if c.dataFmt.getLsbD 9 = true then 2 else 0) = 2 * (c.dataFmt.getLsbD 9).toNat := by
    cases c.dataFmt.getLsbD 9 <;> rfl
  rw [Cfg.dataPacketWords, prefixWords_eq, fmtCidEn, hcid, mul_ite]
  rfl

/-- START's checks in order, each as R198 writes it. -/
theorem startError_eq (c : Cfg) : c.startError =
    if c.bitRes ≠ 12 then some .cfgBitRes
    else if c.sampleRate = 0 then some .cfgSampleRate
    else if c.sampleCount = 0 ∨ c.sampleCount.toNat % 4 ≠ 0 then some .cfgBlockSize
    else if c.dqCap = 0 then some .cfgQueueCap
    else if c.dataFmt >>> 10 ≠ 0 ∨ c.ctxFmt >>> 13 ≠ 0 ∨ c.dataOui >>> 24 ≠ 0 ∨ c.ctxOui >>> 24 ≠ 0 ∨
        c.ctxOff &&& 0xFFC0C0C0 ≠ 0 then some .cfgReserved
    else if 65535 < c.dataPacketWords then some .sizeOverflow
    else if 0 < c.ctxFreq.toInt ∧ ¬ OffsetsLegal c.ctxOff then some .cfgCtxTemplate
    else none := by
  have hres : c.bitRes ∉ Config.supportedRes ↔ c.bitRes ≠ 12 := by simp [Config.supportedRes]
  have hrate : c.rate = 0 ↔ c.sampleRate = 0 := BitVec.toNat_inj (y := 0)
  have hsize : c.blockSize = 0 ↔ c.sampleCount = 0 := BitVec.toNat_inj (y := 0)
  simp only [Cfg.startError, hres, hrate, hsize, Bool.not_eq_true', reservedZero_eq_false_iff, gt_iff_lt,
    ← offsetsLegal_iff, Bool.not_eq_true]
  rfl

/-- START while neither running nor degraded, by the first check that fails. -/
theorem exec_start_of_ready {tod : BitVec 96} {s : State} (hrun : s.running = false) (hdeg : s.degraded = false) :
    exec (.start tod) s = match s.cfg.startError with
      | some e => .next { s.startFailed e with out := .error e }
      | none => .next { s.startRun tod with out := .done } := by
  simp only [exec, execStart, hrun, hdeg]
  rfl

/-- Settles O40: each branch of the checks in turn. -/
theorem startFollowsItsChecks : Obligations.StartFollowsItsChecks := by
  intro tod s f words
  refine ⟨fun h => if_pos (by simpa using h), ?_⟩
  intro hrun hdeg failed
  have hstart := exec_start_of_ready (tod := tod) hrun hdeg
  have hwords : s.cfg.dataPacketWords = words := dataPacketWords_eq s.cfg
  rw [startError_eq, hwords] at hstart
  -- the checks stand in `hstart` and in the goal in the same order
  revert hstart
  split_ifs <;> exact id

end Sys2Proof.Machine
end
